-- ==== Sys2Proof/Word.lean ====
section
/-! DEFINITION. The two word types of the block (00_scope.md R5): 8-bit data and 16-bit pairs and addresses. -/

namespace Sys2Proof

/-- An 8-bit value: a register half, a memory byte, an opcode. -/
abbrev Byte := BitVec 8

/-- A 16-bit value: a register pair, SP, PC, an address. Its arithmetic wraps at 0x10000 (10_state.md R31). -/
abbrev Word := BitVec 16

end Sys2Proof
end

