-- ==== Sys2Proof/Config.lean ====
section
/-! DEFINITION. What is fixed for the machine: the sizes of 00_scope.md R5, and the type of the parameters of R6. The spec leaves no
value free (93_implementation_defined.md: no behaviour is `any value`), so there is no free value here. The parameters are plain
data that State carries, so that a statement about every state holds for every value of them; their defaults are in
Machine/Params.lean. -/

namespace Sys2Proof

/-- The number of byte addresses (00_scope.md R5, 20_memory.md R50). -/
def memorySize : Nat := 0x10000

/-- The capacity of the cartridge buffer in bytes (10_state.md R36). -/
def cartridgeCapacity : Nat := 0x200000

/-- How much of the cartridge buffer a load copies into memory at most (20_memory.md R71). -/
def romWindow : Nat := 0x8000

/-- The values of the parameter `SubBorrowPolarity` (00_scope.md R6, 42_alu8.md R172). -/
inductive BorrowPolarity where
  /-- the subtraction H and C are set on a borrow -/
  | borrow
  /-- they are set when there is no borrow -/
  | noBorrow
deriving DecidableEq, Repr

/-- The parameters of 00_scope.md R6 that a step reads. `CycleCost` is held as what differs from the default table: `costOverrides`
gives an opcode's cost where it lists it (any function from opcodes to costs can be written so); log 2. The third parameter, `IoSeed`,
is read by reset alone and is an argument of `State.resetWith`. -/
structure Params where
  /-- `SubBorrowPolarity` -/
  subBorrowPolarity : BorrowPolarity
  /-- `CycleCost`, where it differs from 70_reset_and_hazards.md R262 -/
  costOverrides : List (Byte × Nat)
deriving DecidableEq, Repr

end Sys2Proof
end

