-- ==== Sys2Proof/Machine/Bits.lean ====
section
/-! DEFINITION. Bit fields of bytes and words (00_scope.md R7, R8; 10_state.md R21). -/

namespace Sys2Proof.Machine

/-- get-high: `w[15:8]` (10_state.md R21). -/
def hi (w : Word) : Byte := w.extractLsb' 8 8

/-- get-low: `w[7:0]` (10_state.md R21). -/
def lo (w : Word) : Byte := w.extractLsb' 0 8

/-- `{h, l}`: the word with `h` in bits 15..8 and `l` in bits 7..0 (00_scope.md R7). -/
def join (h l : Byte) : Word := h ++ l

/-- `wrap8(v)`: `v` modulo 256, non-negative (00_scope.md R8). -/
def wrap8 (v : Int) : Byte := BitVec.ofInt 8 v

/-- `b & 0x0F` as a number (42_alu8.md R173). -/
def lowNibble (b : Byte) : Nat := (b &&& 0x0F).toNat

/-- `b & 0xF0`: what a write of F keeps (10_state.md R27). -/
def flagMask (b : Byte) : Byte := b &&& 0xF0

end Sys2Proof.Machine
end

