-- ==== Sys2Proof/Syntax.lean ====
section
/-! DEFINITION. The instruction set as syntax: the selectors the encodings name (30_encoding.md R83 to R87), and `Instr`, one
constructor per mnemonic of spec/opcode_table.json. A parenthesised memory operand `(X)` is spelled `atX`. -/

namespace Sys2Proof

/-- The 3-bit register code of 30_encoding.md R83, less code 6, which is the memory operand `(HL)` and has forms of its own. -/
inductive Reg8 where
  | b | c | d | e | h | l | a
deriving DecidableEq, Repr

/-- The 2-bit code `pp` of `LD rr,nn` (30_encoding.md R84). -/
inductive PairP where
  | bc | de | hl | sp
deriving DecidableEq, Repr

/-- The 2-bit code `qq` of `PUSH` and `POP` (30_encoding.md R85). -/
inductive PairQ where
  | bc | de | hl | af
deriving DecidableEq, Repr

/-- The pointer of the indirect accumulator loads and stores (30_encoding.md R87). -/
inductive Pointer where
  | bc | de | hlInc | hlDec
deriving DecidableEq, Repr

/-- The eight ALU operations, in code order (30_encoding.md R86). -/
inductive AluOp where
  | add | adc | sub | sbc | and | xor | or | cp
deriving DecidableEq, Repr

/-- The three forms of an ALU operand (42_alu8.md R171). -/
inductive AluSrc where
  | reg (r : Reg8)
  | atHL
  | imm (n : Byte)
deriving DecidableEq, Repr

/-- The instruction forms, one per rule of the spec: what an instruction is once its selectors are named. -/
inductive Form where
  | ldRR (dst src : Reg8)
  | ldRHL (dst : Reg8)
  | ldHLR (src : Reg8)
  | ldRN (dst : Reg8) (n : Byte)
  | ldHLN (n : Byte)
  | ldAInd (p : Pointer)
  | ldIndA (p : Pointer)
  | ldNNA (nn : Word)
  | ldANN (nn : Word)
  | ldhNA (n : Byte)
  | ldhAN (n : Byte)
  | ldCA
  | ldAC
  | ldPairNN (p : PairP) (nn : Word)
  | ldNNSP (nn : Word)
  | ldSPHL
  | push (q : PairQ)
  | pop (q : PairQ)
  | alu (o : AluOp) (x : AluSrc)
  | incR (r : Reg8)
  | incHL
  | decR (r : Reg8)
  | decHL
  | jp (nn : Word)
  | unknown (op : Byte)
deriving DecidableEq, Repr

/-- The instructions: the 188 handled rows of the opcode table and its UNKNOWN rows, whose opcode byte is the operand. -/
inductive Instr where
  -- 8-bit loads between registers (40_load8.md R121)
  | ld_b_b
  | ld_b_c
  | ld_b_d
  | ld_b_e
  | ld_b_h
  | ld_b_l
  | ld_b_a
  | ld_c_b
  | ld_c_c
  | ld_c_d
  | ld_c_e
  | ld_c_h
  | ld_c_l
  | ld_c_a
  | ld_d_b
  | ld_d_c
  | ld_d_d
  | ld_d_e
  | ld_d_h
  | ld_d_l
  | ld_d_a
  | ld_e_b
  | ld_e_c
  | ld_e_d
  | ld_e_e
  | ld_e_h
  | ld_e_l
  | ld_e_a
  | ld_h_b
  | ld_h_c
  | ld_h_d
  | ld_h_e
  | ld_h_h
  | ld_h_l
  | ld_h_a
  | ld_l_b
  | ld_l_c
  | ld_l_d
  | ld_l_e
  | ld_l_h
  | ld_l_l
  | ld_l_a
  | ld_a_b
  | ld_a_c
  | ld_a_d
  | ld_a_e
  | ld_a_h
  | ld_a_l
  | ld_a_a
  -- 8-bit loads and stores through (HL) (R122, R123)
  | ld_b_atHL
  | ld_c_atHL
  | ld_d_atHL
  | ld_e_atHL
  | ld_h_atHL
  | ld_l_atHL
  | ld_atHL_b
  | ld_atHL_c
  | ld_atHL_d
  | ld_atHL_e
  | ld_atHL_h
  | ld_atHL_l
  | ld_atHL_a
  | ld_a_atHL
  -- 8-bit loads of an immediate (R124, R125)
  | ld_b_n (n : Byte)
  | ld_c_n (n : Byte)
  | ld_d_n (n : Byte)
  | ld_e_n (n : Byte)
  | ld_h_n (n : Byte)
  | ld_l_n (n : Byte)
  | ld_atHL_n (n : Byte)
  | ld_a_n (n : Byte)
  -- indirect accumulator loads and stores (R126 to R133)
  | ld_atBC_a
  | ld_a_atBC
  | ld_atDE_a
  | ld_a_atDE
  | ld_atHLinc_a
  | ld_a_atHLinc
  | ld_atHLdec_a
  | ld_a_atHLdec
  -- absolute and high-page accumulator loads and stores (R134 to R139)
  | ldh_atN_a (n : Byte)
  | ld_atC_a
  | ld_atNN_a (nn : Word)
  | ldh_a_atN (n : Byte)
  | ld_a_atC
  | ld_a_atNN (nn : Word)
  -- 16-bit loads (41_load16_stack.md R150 to R152)
  | ld_bc_nn (nn : Word)
  | ld_atNN_sp (nn : Word)
  | ld_de_nn (nn : Word)
  | ld_hl_nn (nn : Word)
  | ld_sp_nn (nn : Word)
  | ld_sp_hl
  -- push and pop (R153 to R155)
  | pop_bc
  | push_bc
  | pop_de
  | push_de
  | pop_hl
  | push_hl
  | pop_af
  | push_af
  -- ADD (42_alu8.md R173)
  | add_a_b
  | add_a_c
  | add_a_d
  | add_a_e
  | add_a_h
  | add_a_l
  | add_a_atHL
  | add_a_a
  | add_a_n (n : Byte)
  -- ADC (42_alu8.md R174)
  | adc_a_b
  | adc_a_c
  | adc_a_d
  | adc_a_e
  | adc_a_h
  | adc_a_l
  | adc_a_atHL
  | adc_a_a
  | adc_a_n (n : Byte)
  -- SUB (42_alu8.md R175)
  | sub_b
  | sub_c
  | sub_d
  | sub_e
  | sub_h
  | sub_l
  | sub_atHL
  | sub_a
  | sub_n (n : Byte)
  -- SBC (42_alu8.md R176)
  | sbc_a_b
  | sbc_a_c
  | sbc_a_d
  | sbc_a_e
  | sbc_a_h
  | sbc_a_l
  | sbc_a_atHL
  | sbc_a_a
  | sbc_a_n (n : Byte)
  -- AND (42_alu8.md R177)
  | and_b
  | and_c
  | and_d
  | and_e
  | and_h
  | and_l
  | and_atHL
  | and_a
  | and_n (n : Byte)
  -- XOR (42_alu8.md R178)
  | xor_b
  | xor_c
  | xor_d
  | xor_e
  | xor_h
  | xor_l
  | xor_atHL
  | xor_a
  | xor_n (n : Byte)
  -- OR (42_alu8.md R179)
  | or_b
  | or_c
  | or_d
  | or_e
  | or_h
  | or_l
  | or_atHL
  | or_a
  | or_n (n : Byte)
  -- CP (42_alu8.md R180)
  | cp_b
  | cp_c
  | cp_d
  | cp_e
  | cp_h
  | cp_l
  | cp_atHL
  | cp_a
  | cp_n (n : Byte)
  -- 8-bit increment and decrement (43_incdec.md R200 to R203)
  | inc_b
  | dec_b
  | inc_c
  | dec_c
  | inc_d
  | dec_d
  | inc_e
  | dec_e
  | inc_h
  | dec_h
  | inc_l
  | dec_l
  | inc_atHL
  | dec_atHL
  | inc_a
  | dec_a
  -- the absolute jump (44_jump.md R210)
  | jp_nn (nn : Word)
  -- a byte with no handler (30_encoding.md R94)
  | unknown (op : Byte)
deriving DecidableEq, Repr

end Sys2Proof
end

