-- ==== Sys2Proof/Machine/Flags.lean ====
section
/-! DEFINITION. The flag byte (10_state.md R26) and the ALU datapath (42_alu8.md R170 to R182; 43_incdec.md R200 to R204). Arithmetic is on
unbounded integers, narrowed at the end (00_scope.md R8). -/

namespace Sys2Proof.Machine

/-- The four flags (10_state.md R26). -/
structure Flags where
  z : Bool
  n : Bool
  h : Bool
  c : Bool
deriving DecidableEq, Repr

/-- The flag byte `z n h c 0000` (10_state.md R26, R27). -/
def Flags.toByte (f : Flags) : Byte :=
  BitVec.ofBool f.z ++ BitVec.ofBool f.n ++ BitVec.ofBool f.h ++ BitVec.ofBool f.c ++ 0#4

/-- The flags in bits 7..4 of a flag byte (10_state.md R26). -/
def Flags.ofByte (b : Byte) : Flags where
  z := b.getLsbD 7
  n := b.getLsbD 6
  h := b.getLsbD 5
  c := b.getLsbD 4

/-- What the ALU computes (42_alu8.md R170). -/
structure AluOut where
  res   : Byte
  flags : Flags
  /-- whether `res` is written to A -/
  wb    : Bool
deriving DecidableEq, Repr

/-- `sflag(borrow)` (42_alu8.md R172). -/
def sflag (p : BorrowPolarity) (borrow : Bool) : Bool :=
  match p with
  | .borrow => borrow
  | .noBorrow => !borrow

/-- ADD (42_alu8.md R173). -/
def aluAdd (a b : Byte) : AluOut :=
  let sum := a.toNat + b.toNat
  let res := wrap8 sum
  { res, wb := true,
    flags := { z := res = 0, n := false, h := lowNibble a + lowNibble b > 0x0F, c := sum > 0xFF } }

/-- ADC (42_alu8.md R174): the carry joins both comparisons at full precision (R182). -/
def aluAdc (a b : Byte) (cin : Bool) : AluOut :=
  let sum := a.toNat + b.toNat + cin.toNat
  let res := wrap8 sum
  { res, wb := true,
    flags := { z := res = 0, n := false, h := lowNibble a + lowNibble b + cin.toNat > 0x0F, c := sum > 0xFF } }

/-- SUB (42_alu8.md R175). -/
def aluSub (p : BorrowPolarity) (a b : Byte) : AluOut :=
  let res := wrap8 ((a.toNat : Int) - b.toNat)
  { res, wb := true,
    flags := { z := res = 0, n := true,
               h := sflag p (lowNibble a < lowNibble b), c := sflag p (a.toNat < b.toNat) } }

/-- SBC (42_alu8.md R176): the carry joins both comparisons at full precision (R182). -/
def aluSbc (p : BorrowPolarity) (a b : Byte) (cin : Bool) : AluOut :=
  let res := wrap8 ((a.toNat : Int) - b.toNat - cin.toNat)
  { res, wb := true,
    flags := { z := res = 0, n := true,
               h := sflag p (lowNibble a < lowNibble b + cin.toNat), c := sflag p (a.toNat < b.toNat + cin.toNat) } }

/-- AND (42_alu8.md R177). -/
def aluAnd (a b : Byte) : AluOut :=
  let res := a &&& b
  { res, wb := true, flags := { z := res = 0, n := false, h := true, c := false } }

/-- XOR (42_alu8.md R178). -/
def aluXor (a b : Byte) : AluOut :=
  let res := a ^^^ b
  { res, wb := true, flags := { z := res = 0, n := false, h := false, c := false } }

/-- OR (42_alu8.md R179). -/
def aluOr (a b : Byte) : AluOut :=
  let res := a ||| b
  { res, wb := true, flags := { z := res = 0, n := false, h := false, c := false } }

/-- CP (42_alu8.md R180): the flags of a difference, and A is not written. -/
def aluCp (p : BorrowPolarity) (a b : Byte) : AluOut :=
  let res := wrap8 ((a.toNat : Int) - b.toNat)
  { res, wb := false,
    flags := { z := res = 0, n := true,
               h := sflag p (lowNibble a < lowNibble b), c := sflag p (a.toNat < b.toNat) } }

/-- The ALU (42_alu8.md R170): the operation, the accumulator, the operand, and `F.C`, which only ADC and SBC use. -/
def alu (p : BorrowPolarity) (o : AluOp) (a b : Byte) (cin : Bool) : AluOut :=
  match o with
  | .add => aluAdd a b
  | .adc => aluAdc a b cin
  | .sub => aluSub p a b
  | .sbc => aluSbc p a b cin
  | .and => aluAnd a b
  | .xor => aluXor a b
  | .or => aluOr a b
  | .cp => aluCp p a b

/-- The flags of INC on the operand `v` (43_incdec.md R200): C is kept. -/
def incFlags (old : Flags) (v : Byte) : Flags where
  z := wrap8 ((v.toNat : Int) + 1) = 0
  n := false
  h := lowNibble v = 0x0F
  c := old.c

/-- The flags of DEC on the operand `v` (43_incdec.md R202): C is kept. -/
def decFlags (p : BorrowPolarity) (old : Flags) (v : Byte) : Flags where
  z := wrap8 ((v.toNat : Int) - 1) = 0
  n := true
  h := sflag p (lowNibble v = 0x00)
  c := old.c

end Sys2Proof.Machine
end

