-- ==== Sys2Proof/Machine/Memory.lean ====
section
/-! DEFINITION. Byte stores as plain data: a list of (address, byte) pairs in one canonical form, used for the 64 KiB memory
(20_memory.md R50) and for the cartridge buffer (10_state.md R36). -/

namespace Sys2Proof.Machine

/-- A byte store: addresses strictly rising, no entry equal to `Memory.unlisted`. -/
abbrev Memory := List Host.Cell

namespace Memory

/-- What an unlisted address reads as: 0x00, the reset contents of memory (70_reset_and_hazards.md R252) and of the zero-filled
cartridge buffer (10_state.md R36). -/
def unlisted : Byte := 0x00

/-- The byte at `a` (20_memory.md R51). -/
def read : Memory → Nat → Byte
  | [], _ => unlisted
  | (k, b) :: rest, a => if k = a then b else read rest a

/-- The store without an entry at `a`. -/
def erase (m : Memory) (a : Nat) : Memory := m.filter fun c => decide (c.1 ≠ a)

/-- The store with an entry `(a, v)` put in address order. -/
def insertCell (a : Nat) (v : Byte) : Memory → Memory
  | [] => [(a, v)]
  | (k, b) :: rest => if a < k then (a, v) :: (k, b) :: rest else (k, b) :: insertCell a v rest

/-- The store with the byte at `a` made `v` (20_memory.md R52). Writing `unlisted` removes the entry. -/
def write (m : Memory) (a : Nat) (v : Byte) : Memory :=
  if v = unlisted then erase m a else insertCell a v (erase m a)

/-- The canonical form, from address `low` on: addresses strictly rising and below `cap`, no entry equal to `unlisted`. -/
def wfFrom (cap : Nat) : Nat → Memory → Bool
  | _, [] => true
  | low, (k, b) :: rest => decide (low ≤ k) && decide (k < cap) && decide (b ≠ unlisted) && wfFrom cap (k + 1) rest

/-- The canonical form of the 64 KiB memory. -/
def wf (m : Memory) : Bool := wfFrom memorySize 0 m

/-- The canonical store holding `bytes` from address `base` on, and `unlisted` everywhere else. -/
def ofBytes : Nat → List Byte → Memory
  | _, [] => []
  | base, b :: rest => if b = unlisted then ofBytes (base + 1) rest else (base, b) :: ofBytes (base + 1) rest

/-- The store with its first `n` addresses replaced by `bytes`, of which there are `n`. -/
def overlayLow (bytes : List Byte) (m : Memory) : Memory :=
  ofBytes 0 bytes ++ m.filter fun c => decide (bytes.length ≤ c.1)

/-- The store with each seed byte written, in list order (70_reset_and_hazards.md R251, R253). -/
def seeded : List (Word × Byte) → Memory → Memory
  | [], m => m
  | (a, v) :: rest, m => seeded rest (write m a.toNat v)

end Memory

end Sys2Proof.Machine
end

