-- ==== Sys2Proof/Machine/Params.lean ====
section
/-! DEFINITION. The parameters' values: the default `CycleCost` (70_reset_and_hazards.md R262), the default `IoSeed` (R253), and the lookup
of a cost. DESIGN CHOICE (logs 1 to 3): these defaults stand at `State.reset`; a step holds for every value of the parameters. -/

namespace Sys2Proof.Machine

/-! ## CycleCost -/

/-- The costs of opcodes 0x00 to 0x0F. -/
def costRow0 : List Nat := [0, 12, 8, 0, 4, 4, 8, 0, 20, 0, 8, 0, 4, 4, 8, 0]

/-- The costs of opcodes 0x10 to 0x1F. -/
def costRow1 : List Nat := [0, 12, 8, 0, 4, 4, 8, 0, 0, 0, 8, 0, 4, 4, 8, 0]

/-- The costs of opcodes 0x20 to 0x2F. -/
def costRow2 : List Nat := [0, 12, 8, 0, 4, 4, 8, 0, 0, 0, 8, 0, 4, 4, 8, 0]

/-- The costs of opcodes 0x30 to 0x3F. -/
def costRow3 : List Nat := [0, 12, 8, 0, 12, 12, 12, 0, 0, 0, 8, 0, 4, 4, 8, 0]

/-- The costs of opcodes 0x40 to 0x4F. -/
def costRow4 : List Nat := [4, 4, 4, 4, 4, 4, 8, 4, 4, 4, 4, 4, 4, 4, 8, 4]

/-- The costs of opcodes 0x50 to 0x5F. -/
def costRow5 : List Nat := [4, 4, 4, 4, 4, 4, 8, 4, 4, 4, 4, 4, 4, 4, 8, 4]

/-- The costs of opcodes 0x60 to 0x6F. -/
def costRow6 : List Nat := [4, 4, 4, 4, 4, 4, 8, 4, 4, 4, 4, 4, 4, 4, 8, 4]

/-- The costs of opcodes 0x70 to 0x7F. -/
def costRow7 : List Nat := [8, 8, 8, 8, 8, 8, 0, 8, 4, 4, 4, 4, 4, 4, 8, 4]

/-- The costs of opcodes 0x80 to 0x8F. -/
def costRow8 : List Nat := [4, 4, 4, 4, 4, 4, 8, 4, 4, 4, 4, 4, 4, 4, 8, 4]

/-- The costs of opcodes 0x90 to 0x9F. -/
def costRow9 : List Nat := [4, 4, 4, 4, 4, 4, 8, 4, 4, 4, 4, 4, 4, 4, 8, 4]

/-- The costs of opcodes 0xA0 to 0xAF. -/
def costRowA : List Nat := [4, 4, 4, 4, 4, 4, 8, 4, 4, 4, 4, 4, 4, 4, 8, 4]

/-- The costs of opcodes 0xB0 to 0xBF. -/
def costRowB : List Nat := [4, 4, 4, 4, 4, 4, 8, 4, 4, 4, 4, 4, 4, 4, 8, 4]

/-- The costs of opcodes 0xC0 to 0xCF. -/
def costRowC : List Nat := [0, 12, 0, 16, 0, 16, 8, 0, 0, 0, 0, 0, 0, 0, 8, 0]

/-- The costs of opcodes 0xD0 to 0xDF. -/
def costRowD : List Nat := [0, 12, 0, 0, 0, 16, 8, 0, 0, 0, 0, 0, 0, 0, 8, 0]

/-- The costs of opcodes 0xE0 to 0xEF. -/
def costRowE : List Nat := [12, 12, 8, 0, 0, 16, 8, 0, 0, 0, 16, 0, 0, 0, 8, 0]

/-- The costs of opcodes 0xF0 to 0xFF. -/
def costRowF : List Nat := [12, 12, 8, 0, 0, 16, 8, 0, 0, 8, 16, 0, 0, 0, 8, 0]

/-- The default cost of every opcode, by high nibble: the `cost` field of opcode_table.json, 0 for an unknown opcode
(70_reset_and_hazards.md R262). -/
def costRows : List (List Nat) :=
  [costRow0, costRow1, costRow2, costRow3, costRow4, costRow5, costRow6, costRow7] ++
  [costRow8, costRow9, costRowA, costRowB, costRowC, costRowD, costRowE, costRowF]

/-- The default `CycleCost(op)` (70_reset_and_hazards.md R262). -/
def defaultCost (op : Byte) : Nat := (costRows.getD (op.toNat / 16) []).getD (op.toNat % 16) 0

/-- The cost an override list gives an opcode: its first entry for it, else the default. -/
def costFrom : List (Byte × Nat) → Byte → Nat
  | [], op => defaultCost op
  | (k, c) :: rest, op => if k = op then c else costFrom rest op

/-! ## IoSeed -/

/-- The default `IoSeed` (70_reset_and_hazards.md R253), in that table's order. -/
def defaultIoSeed : List (Word × Byte) :=
  [(0xFF05, 0x00), (0xFF14, 0xBF), (0xFF1C, 0x9F), (0xFF25, 0xF3),
   (0xFF06, 0x00), (0xFF16, 0x3F), (0xFF1E, 0xBF), (0xFF26, 0xF1),
   (0xFF07, 0x00), (0xFF17, 0x00), (0xFF20, 0xFF), (0xFF40, 0x91),
   (0xFF10, 0x80), (0xFF19, 0xBF), (0xFF21, 0x00), (0xFF42, 0x00)] ++
  [(0xFF11, 0xBF), (0xFF1A, 0x7F), (0xFF22, 0x00), (0xFF43, 0x00),
   (0xFF12, 0xF3), (0xFF1B, 0xFF), (0xFF23, 0xBF), (0xFF45, 0x00),
   (0xFF24, 0x77), (0xFF47, 0xFC), (0xFF48, 0xFF), (0xFF49, 0xFF),
   (0xFF4A, 0x00), (0xFF4B, 0x00), (0xFFFF, 0x00)]

end Sys2Proof.Machine

namespace Sys2Proof

/-- `CycleCost(op)` (70_reset_and_hazards.md R261, R262): `JP nn` (0xC3) costs 16 whatever the parameter is. -/
def Params.cycleCost (p : Params) (op : Byte) : Nat :=
  if op = 0xC3 then 16 else Machine.costFrom p.costOverrides op

/-- The recommended defaults of 00_scope.md R6: `Borrow` (42_alu8.md R172) and the default costs. -/
def Params.default : Params where
  subBorrowPolarity := .borrow
  costOverrides := []

end Sys2Proof
end

