-- ==== Sys2Proof/Machine/State.lean ====
section
/-! DEFINITION. The state of the block (10_state.md), the reasons a step or a host operation can stop, and reset. -/

namespace Sys2Proof.Machine

/-- The cause of a fault (60_exceptions.md R220): there is one. -/
inductive Cause where
  | unknownOpcode
deriving DecidableEq, Repr

/-- The fault record (60_exceptions.md R222). -/
structure FaultRecord where
  cause  : Cause
  /-- the byte fetched at `pc` -/
  opcode : Byte
  pc     : Word
  sp     : Word
  af     : Word
  bc     : Word
  de     : Word
  hl     : Word
deriving DecidableEq, Repr

/-- How far the host has come (the MODEL's own field; 20_memory.md R74, log 6). -/
inductive HostPhase where
  /-- reset, nothing loaded, no step taken -/
  | fresh
  /-- a cartridge was loaded, no step taken -/
  | loaded
  /-- a step was taken -/
  | running
deriving DecidableEq, Repr

/-- The machine's state. The four pairs are each stored once (10_state.md R21); the 8-bit views are accessors in Ops.lean. -/
structure State where
  /-- A and F (10_state.md R22, R26) -/
  af : Word
  /-- B and C -/
  bc : Word
  /-- D and E -/
  de : Word
  /-- H and L -/
  hl : Word
  /-- the stack pointer (10_state.md R31) -/
  sp : Word
  /-- the program counter (10_state.md R32) -/
  pc : Word
  /-- the memory behind the bus (20_memory.md R50) -/
  mem : Memory
  /-- elapsed T-states, unbounded (10_state.md R33) -/
  cycles : Nat
  /-- the fault latch (10_state.md R34) -/
  fault : Option FaultRecord
  /-- `cart_type` (10_state.md R35) -/
  cartType : Byte
  /-- `ram_size_code` (10_state.md R35) -/
  ramSizeCode : Byte
  /-- `rom_size_code` (10_state.md R35) -/
  romSizeCode : Byte
  /-- the cartridge buffer (10_state.md R36), by file offset -/
  cartBuffer : Memory
  /-- the model's own: what the host has done so far (log 6) -/
  phase : HostPhase
  /-- the model's own: the parameters a step reads, fixed for the run (log 1) -/
  params : Params
deriving DecidableEq, Repr

/-- Why a step stops. -/
inductive Fault where
  /-- `step` on a state whose fault latch is set: the block has no step (30_encoding.md R102, 60_exceptions.md R223). The stuck state
  the spec names; safe. -/
  | blockFaulted
deriving DecidableEq, Repr

/-- Why there is no meaning. -/
inductive Refusal where
  /-- an instruction with no meaning yet; no arm of `exec` raises it in this model. Safe. -/
  | notModelled (mnemonic : String)
  /-- `loadCartridge` after a load (20_memory.md R74). Safe. -/
  | secondLoad
  /-- `loadCartridge` after a step (20_memory.md R74). Safe. -/
  | loadAfterStep
deriving DecidableEq, Repr

/-- The outcome of a meaning or a step. -/
abbrev Result := Host.Outcome State Fault Refusal

/-- Reset (10_state.md R39; 70_reset_and_hazards.md R250 to R253) under given parameters: every value is the spec's. DESIGN CHOICE (log 3): R253
has seed addresses in 0xFF00 to 0xFFFF only and does not say what an entry outside them would do. Here such an entry is written like any
other, and of two entries for one address the later stays. -/
def State.resetWith (p : Params) (ioSeed : List (Word × Byte)) : State where
  af := 0x01B0
  bc := 0x0013
  de := 0x00D8
  hl := 0x014D
  sp := 0xFFFE
  pc := 0x0100
  mem := Memory.seeded ioSeed []
  cycles := 0
  fault := none
  cartType := 0x00
  ramSizeCode := 0x00
  romSizeCode := 0x00
  cartBuffer := []
  phase := .fresh
  params := p

/-- The machine right after reset, under the spec's recommended parameters (00_scope.md R6; DESIGN CHOICE, logs 1 to 3). -/
def State.reset : State := .resetWith .default defaultIoSeed

end Sys2Proof.Machine
end

