-- ==== Sys2Proof/Machine/Ops.lean ====
section
/-! DEFINITION. The named operations over registers and memory, and the taking of the one exception. Every instruction reads and writes
state through these. -/

namespace Sys2Proof.Machine

namespace State

/-! ## One update per field -/

def withAf (s : State) (v : Word) : State := { s with af := v }
def withBc (s : State) (v : Word) : State := { s with bc := v }
def withDe (s : State) (v : Word) : State := { s with de := v }
def withHl (s : State) (v : Word) : State := { s with hl := v }
def withSp (s : State) (v : Word) : State := { s with sp := v }
def withPc (s : State) (v : Word) : State := { s with pc := v }
def withMem (s : State) (v : Memory) : State := { s with mem := v }
def withCycles (s : State) (v : Nat) : State := { s with cycles := v }
def withFault (s : State) (v : Option FaultRecord) : State := { s with fault := v }
def withPhase (s : State) (v : HostPhase) : State := { s with phase := v }

/-! ## The 8-bit views (10_state.md R21 to R23) -/

def getA (s : State) : Byte := hi s.af
def getF (s : State) : Byte := lo s.af
def getB (s : State) : Byte := hi s.bc
def getC (s : State) : Byte := lo s.bc
def getD (s : State) : Byte := hi s.de
def getE (s : State) : Byte := lo s.de
def getH (s : State) : Byte := hi s.hl
def getL (s : State) : Byte := lo s.hl

def setA (s : State) (v : Byte) : State := s.withAf (join v (lo s.af))
/-- Every write of F stores `v & 0xF0` (10_state.md R27). -/
def setF (s : State) (v : Byte) : State := s.withAf (join (hi s.af) (flagMask v))
def setB (s : State) (v : Byte) : State := s.withBc (join v (lo s.bc))
def setC (s : State) (v : Byte) : State := s.withBc (join (hi s.bc) v)
def setD (s : State) (v : Byte) : State := s.withDe (join v (lo s.de))
def setE (s : State) (v : Byte) : State := s.withDe (join (hi s.de) v)
def setH (s : State) (v : Byte) : State := s.withHl (join v (lo s.hl))
def setL (s : State) (v : Byte) : State := s.withHl (join (hi s.hl) v)

/-- Every write of AF stores `v & 0xF0` in F (10_state.md R27). -/
def setAF (s : State) (v : Word) : State := s.withAf (join (hi v) (flagMask (lo v)))

/-! ## The selectors (30_encoding.md R83 to R85): each resolves to exactly one register (10_state.md R24) -/

/-- `reg8[c]` as a value (30_encoding.md R83). -/
def getReg8 (s : State) : Reg8 → Byte
  | .b => s.getB
  | .c => s.getC
  | .d => s.getD
  | .e => s.getE
  | .h => s.getH
  | .l => s.getL
  | .a => s.getA

/-- `reg8[c] <- v` (30_encoding.md R83). -/
def setReg8 (s : State) (r : Reg8) (v : Byte) : State :=
  match r with
  | .b => s.setB v
  | .c => s.setC v
  | .d => s.setD v
  | .e => s.setE v
  | .h => s.setH v
  | .l => s.setL v
  | .a => s.setA v

/-- `reg16p[p]` as a value (30_encoding.md R84). -/
def getPairP (s : State) : PairP → Word
  | .bc => s.bc
  | .de => s.de
  | .hl => s.hl
  | .sp => s.sp

/-- `reg16p[p] <- v` (30_encoding.md R84). -/
def setPairP (s : State) (p : PairP) (v : Word) : State :=
  match p with
  | .bc => s.withBc v
  | .de => s.withDe v
  | .hl => s.withHl v
  | .sp => s.withSp v

/-- `reg16q[q]` as a value (30_encoding.md R85). -/
def getPairQ (s : State) : PairQ → Word
  | .bc => s.bc
  | .de => s.de
  | .hl => s.hl
  | .af => s.af

/-- `reg16q[q] <- v` (30_encoding.md R85). -/
def setPairQ (s : State) (q : PairQ) (v : Word) : State :=
  match q with
  | .bc => s.withBc v
  | .de => s.withDe v
  | .hl => s.withHl v
  | .af => s.setAF v

/-! ## The bus (20_memory.md R51 to R59) -/

/-- `MemRead(a, 1)` (20_memory.md R51). -/
def busRead (s : State) (a : Word) : Byte := Memory.read s.mem a.toNat

/-- `MemWrite(a, 1, v)` (20_memory.md R52): unconditional, whatever the address. -/
def busWrite (s : State) (a : Word) (v : Byte) : State := s.withMem (Memory.write s.mem a.toNat v)

/-- `MemRead16(a)` (00_scope.md R10): little-endian, the second address wraps (20_memory.md R56, R59). -/
def busRead16 (s : State) (a : Word) : Word := join (s.busRead (a + 1)) (s.busRead a)

/-- `MemWrite16(a, v)` (00_scope.md R10): the low byte first (20_memory.md R58, R59). -/
def busWrite16 (s : State) (a : Word) (v : Word) : State := (s.busWrite a (lo v)).busWrite (a + 1) (hi v)

/-! ## The exception -/

/-- The fault record of the current state (60_exceptions.md R222). -/
def faultRecord (s : State) (op : Byte) : FaultRecord where
  cause := .unknownOpcode
  opcode := op
  pc := s.pc
  sp := s.sp
  af := s.af
  bc := s.bc
  de := s.de
  hl := s.hl

/-- Taking the unknown-opcode fault (60_exceptions.md R221): nothing is written but the fault latch. The block has no vector, no handler
and no return from it (R223), so there is no return operation. -/
def raiseUnknownOpcode (s : State) (op : Byte) : State := s.withFault (some (s.faultRecord op))

end State

end Sys2Proof.Machine
end

