-- ==== Sys2Proof/Machine/Operands.lean ====
section
/-! DEFINITION. The operand forms: the pointers, the high page, the ALU operand, and the flags of a state. Immediates are operands of the
instruction itself (Sequencer.lean reads them). -/

namespace Sys2Proof.Machine

/-- The high-page address of a low byte: `0xFF00 + n` (40_load8.md R136, R138). -/
def highPage (n : Byte) : Word := 0xFF00 + n.setWidth 16

namespace State

/-- The flags (10_state.md R26). -/
def flags (s : State) : Flags := Flags.ofByte s.getF

/-- The address of an indirect accumulator operand, before any update of HL (30_encoding.md R87). -/
def pointerAddr (s : State) : Pointer → Word
  | .bc => s.bc
  | .de => s.de
  | .hlInc => s.hl
  | .hlDec => s.hl

/-- The update of HL after the access (40_load8.md R130 to R133): it wraps modulo 0x10000 and sets no flag. -/
def pointerPost (s : State) : Pointer → State
  | .bc => s
  | .de => s
  | .hlInc => s.withHl (s.hl + 1)
  | .hlDec => s.withHl (s.hl - 1)

/-- The operand `b` of an ALU instruction (42_alu8.md R171). -/
def readSrc (s : State) : AluSrc → Byte
  | .reg r => s.getReg8 r
  | .atHL => s.busRead s.hl
  | .imm n => n

end State

end Sys2Proof.Machine
end

