-- ==== Sys2Proof/Machine/Alu8.lean ====
section
/-! DEFINITION. The 8-bit ALU instructions (42_alu8.md): the instruction around the datapath of Flags.lean, then one meaning per
instruction. -/

namespace Sys2Proof.Machine

/-- An ALU instruction (R170): the operand is read first (R171), `A <- res` if `wb`, then `F <- z n h c 0000` (R181). -/
def aluInstr (o : AluOp) (x : AluSrc) (s : State) : State :=
  let out := alu s.params.subBorrowPolarity o s.getA (s.readSrc x) s.flags.c
  (if out.wb then s.setA out.res else s).setF out.flags.toByte

/-! ## The meanings -/

/-- `ADD A,B` (0x80, R173). -/
def execAdd_a_b (s : State) : Result := .next (aluInstr .add (.reg .b) s)

/-- `ADD A,C` (0x81, R173). -/
def execAdd_a_c (s : State) : Result := .next (aluInstr .add (.reg .c) s)

/-- `ADD A,D` (0x82, R173). -/
def execAdd_a_d (s : State) : Result := .next (aluInstr .add (.reg .d) s)

/-- `ADD A,E` (0x83, R173). -/
def execAdd_a_e (s : State) : Result := .next (aluInstr .add (.reg .e) s)

/-- `ADD A,H` (0x84, R173). -/
def execAdd_a_h (s : State) : Result := .next (aluInstr .add (.reg .h) s)

/-- `ADD A,L` (0x85, R173). -/
def execAdd_a_l (s : State) : Result := .next (aluInstr .add (.reg .l) s)

/-- `ADD A,(HL)` (0x86, R173). -/
def execAdd_a_atHL (s : State) : Result := .next (aluInstr .add .atHL s)

/-- `ADD A,A` (0x87, R173). -/
def execAdd_a_a (s : State) : Result := .next (aluInstr .add (.reg .a) s)

/-- `ADD A,n` (0xC6, R173). -/
def execAdd_a_n (n : Byte) (s : State) : Result := .next (aluInstr .add (.imm n) s)

/-- `ADC A,B` (0x88, R174). -/
def execAdc_a_b (s : State) : Result := .next (aluInstr .adc (.reg .b) s)

/-- `ADC A,C` (0x89, R174). -/
def execAdc_a_c (s : State) : Result := .next (aluInstr .adc (.reg .c) s)

/-- `ADC A,D` (0x8A, R174). -/
def execAdc_a_d (s : State) : Result := .next (aluInstr .adc (.reg .d) s)

/-- `ADC A,E` (0x8B, R174). -/
def execAdc_a_e (s : State) : Result := .next (aluInstr .adc (.reg .e) s)

/-- `ADC A,H` (0x8C, R174). -/
def execAdc_a_h (s : State) : Result := .next (aluInstr .adc (.reg .h) s)

/-- `ADC A,L` (0x8D, R174). -/
def execAdc_a_l (s : State) : Result := .next (aluInstr .adc (.reg .l) s)

/-- `ADC A,(HL)` (0x8E, R174). -/
def execAdc_a_atHL (s : State) : Result := .next (aluInstr .adc .atHL s)

/-- `ADC A,A` (0x8F, R174). -/
def execAdc_a_a (s : State) : Result := .next (aluInstr .adc (.reg .a) s)

/-- `ADC A,n` (0xCE, R174). -/
def execAdc_a_n (n : Byte) (s : State) : Result := .next (aluInstr .adc (.imm n) s)

/-- `SUB B` (0x90, R175). -/
def execSub_b (s : State) : Result := .next (aluInstr .sub (.reg .b) s)

/-- `SUB C` (0x91, R175). -/
def execSub_c (s : State) : Result := .next (aluInstr .sub (.reg .c) s)

/-- `SUB D` (0x92, R175). -/
def execSub_d (s : State) : Result := .next (aluInstr .sub (.reg .d) s)

/-- `SUB E` (0x93, R175). -/
def execSub_e (s : State) : Result := .next (aluInstr .sub (.reg .e) s)

/-- `SUB H` (0x94, R175). -/
def execSub_h (s : State) : Result := .next (aluInstr .sub (.reg .h) s)

/-- `SUB L` (0x95, R175). -/
def execSub_l (s : State) : Result := .next (aluInstr .sub (.reg .l) s)

/-- `SUB (HL)` (0x96, R175). -/
def execSub_atHL (s : State) : Result := .next (aluInstr .sub .atHL s)

/-- `SUB A` (0x97, R175). -/
def execSub_a (s : State) : Result := .next (aluInstr .sub (.reg .a) s)

/-- `SUB n` (0xD6, R175). -/
def execSub_n (n : Byte) (s : State) : Result := .next (aluInstr .sub (.imm n) s)

/-- `SBC A,B` (0x98, R176). -/
def execSbc_a_b (s : State) : Result := .next (aluInstr .sbc (.reg .b) s)

/-- `SBC A,C` (0x99, R176). -/
def execSbc_a_c (s : State) : Result := .next (aluInstr .sbc (.reg .c) s)

/-- `SBC A,D` (0x9A, R176). -/
def execSbc_a_d (s : State) : Result := .next (aluInstr .sbc (.reg .d) s)

/-- `SBC A,E` (0x9B, R176). -/
def execSbc_a_e (s : State) : Result := .next (aluInstr .sbc (.reg .e) s)

/-- `SBC A,H` (0x9C, R176). -/
def execSbc_a_h (s : State) : Result := .next (aluInstr .sbc (.reg .h) s)

/-- `SBC A,L` (0x9D, R176). -/
def execSbc_a_l (s : State) : Result := .next (aluInstr .sbc (.reg .l) s)

/-- `SBC A,(HL)` (0x9E, R176). -/
def execSbc_a_atHL (s : State) : Result := .next (aluInstr .sbc .atHL s)

/-- `SBC A,A` (0x9F, R176). -/
def execSbc_a_a (s : State) : Result := .next (aluInstr .sbc (.reg .a) s)

/-- `SBC A,n` (0xDE, R176). -/
def execSbc_a_n (n : Byte) (s : State) : Result := .next (aluInstr .sbc (.imm n) s)

/-- `AND B` (0xA0, R177). -/
def execAnd_b (s : State) : Result := .next (aluInstr .and (.reg .b) s)

/-- `AND C` (0xA1, R177). -/
def execAnd_c (s : State) : Result := .next (aluInstr .and (.reg .c) s)

/-- `AND D` (0xA2, R177). -/
def execAnd_d (s : State) : Result := .next (aluInstr .and (.reg .d) s)

/-- `AND E` (0xA3, R177). -/
def execAnd_e (s : State) : Result := .next (aluInstr .and (.reg .e) s)

/-- `AND H` (0xA4, R177). -/
def execAnd_h (s : State) : Result := .next (aluInstr .and (.reg .h) s)

/-- `AND L` (0xA5, R177). -/
def execAnd_l (s : State) : Result := .next (aluInstr .and (.reg .l) s)

/-- `AND (HL)` (0xA6, R177). -/
def execAnd_atHL (s : State) : Result := .next (aluInstr .and .atHL s)

/-- `AND A` (0xA7, R177). -/
def execAnd_a (s : State) : Result := .next (aluInstr .and (.reg .a) s)

/-- `AND n` (0xE6, R177). -/
def execAnd_n (n : Byte) (s : State) : Result := .next (aluInstr .and (.imm n) s)

/-- `XOR B` (0xA8, R178). -/
def execXor_b (s : State) : Result := .next (aluInstr .xor (.reg .b) s)

/-- `XOR C` (0xA9, R178). -/
def execXor_c (s : State) : Result := .next (aluInstr .xor (.reg .c) s)

/-- `XOR D` (0xAA, R178). -/
def execXor_d (s : State) : Result := .next (aluInstr .xor (.reg .d) s)

/-- `XOR E` (0xAB, R178). -/
def execXor_e (s : State) : Result := .next (aluInstr .xor (.reg .e) s)

/-- `XOR H` (0xAC, R178). -/
def execXor_h (s : State) : Result := .next (aluInstr .xor (.reg .h) s)

/-- `XOR L` (0xAD, R178). -/
def execXor_l (s : State) : Result := .next (aluInstr .xor (.reg .l) s)

/-- `XOR (HL)` (0xAE, R178). -/
def execXor_atHL (s : State) : Result := .next (aluInstr .xor .atHL s)

/-- `XOR A` (0xAF, R178). -/
def execXor_a (s : State) : Result := .next (aluInstr .xor (.reg .a) s)

/-- `XOR n` (0xEE, R178). -/
def execXor_n (n : Byte) (s : State) : Result := .next (aluInstr .xor (.imm n) s)

/-- `OR B` (0xB0, R179). -/
def execOr_b (s : State) : Result := .next (aluInstr .or (.reg .b) s)

/-- `OR C` (0xB1, R179). -/
def execOr_c (s : State) : Result := .next (aluInstr .or (.reg .c) s)

/-- `OR D` (0xB2, R179). -/
def execOr_d (s : State) : Result := .next (aluInstr .or (.reg .d) s)

/-- `OR E` (0xB3, R179). -/
def execOr_e (s : State) : Result := .next (aluInstr .or (.reg .e) s)

/-- `OR H` (0xB4, R179). -/
def execOr_h (s : State) : Result := .next (aluInstr .or (.reg .h) s)

/-- `OR L` (0xB5, R179). -/
def execOr_l (s : State) : Result := .next (aluInstr .or (.reg .l) s)

/-- `OR (HL)` (0xB6, R179). -/
def execOr_atHL (s : State) : Result := .next (aluInstr .or .atHL s)

/-- `OR A` (0xB7, R179). -/
def execOr_a (s : State) : Result := .next (aluInstr .or (.reg .a) s)

/-- `OR n` (0xF6, R179). -/
def execOr_n (n : Byte) (s : State) : Result := .next (aluInstr .or (.imm n) s)

/-- `CP B` (0xB8, R180). -/
def execCp_b (s : State) : Result := .next (aluInstr .cp (.reg .b) s)

/-- `CP C` (0xB9, R180). -/
def execCp_c (s : State) : Result := .next (aluInstr .cp (.reg .c) s)

/-- `CP D` (0xBA, R180). -/
def execCp_d (s : State) : Result := .next (aluInstr .cp (.reg .d) s)

/-- `CP E` (0xBB, R180). -/
def execCp_e (s : State) : Result := .next (aluInstr .cp (.reg .e) s)

/-- `CP H` (0xBC, R180). -/
def execCp_h (s : State) : Result := .next (aluInstr .cp (.reg .h) s)

/-- `CP L` (0xBD, R180). -/
def execCp_l (s : State) : Result := .next (aluInstr .cp (.reg .l) s)

/-- `CP (HL)` (0xBE, R180). -/
def execCp_atHL (s : State) : Result := .next (aluInstr .cp .atHL s)

/-- `CP A` (0xBF, R180). -/
def execCp_a (s : State) : Result := .next (aluInstr .cp (.reg .a) s)

/-- `CP n` (0xFE, R180). -/
def execCp_n (n : Byte) (s : State) : Result := .next (aluInstr .cp (.imm n) s)

end Sys2Proof.Machine
end

