-- ==== Sys2Proof/Machine/Control.lean ====
section
/-! DEFINITION. The absolute jump (44_jump.md) and the unknown opcode (60_exceptions.md). -/

namespace Sys2Proof.Machine

/-- `JP nn` (R210): the target is the final pc of the step, which does not advance it (R211; Sequencer.lean `retire`). -/
def jumpTo (nn : Word) (s : State) : State := s.withPc nn

/-- `JP nn` (0xC3, R210). -/
def execJp_nn (nn : Word) (s : State) : Result := .next (jumpTo nn s)

/-- A byte with no handler: it takes the unknown-opcode fault (60_exceptions.md R221). -/
def execUnknown (op : Byte) (s : State) : Result := .next (s.raiseUnknownOpcode op)

end Sys2Proof.Machine
end

