-- ==== Sys2Proof/Machine/IncDec.lean ====
section
/-! DEFINITION. The 8-bit increment and decrement (43_incdec.md): the shared effect of each form, then one meaning per instruction. -/

namespace Sys2Proof.Machine

/-! ## The effects -/

/-- `INC r` (R200). -/
def incReg (r : Reg8) (s : State) : State :=
  let v := s.getReg8 r
  (s.setF (incFlags s.flags v).toByte).setReg8 r (wrap8 ((v.toNat : Int) + 1))

/-- `INC (HL)` (R201): one read, then one write, of the byte at HL. -/
def incAtHL (s : State) : State :=
  let v := s.busRead s.hl
  (s.setF (incFlags s.flags v).toByte).busWrite s.hl (wrap8 ((v.toNat : Int) + 1))

/-- `DEC r` (R202). -/
def decReg (r : Reg8) (s : State) : State :=
  let v := s.getReg8 r
  (s.setF (decFlags s.params.subBorrowPolarity s.flags v).toByte).setReg8 r (wrap8 ((v.toNat : Int) - 1))

/-- `DEC (HL)` (R203): one read, then one write, of the byte at HL. -/
def decAtHL (s : State) : State :=
  let v := s.busRead s.hl
  (s.setF (decFlags s.params.subBorrowPolarity s.flags v).toByte).busWrite s.hl (wrap8 ((v.toNat : Int) - 1))

/-! ## The meanings -/

/-- `INC B` (0x04, R200). -/
def execInc_b (s : State) : Result := .next (incReg .b s)

/-- `DEC B` (0x05, R202). -/
def execDec_b (s : State) : Result := .next (decReg .b s)

/-- `INC C` (0x0C, R200). -/
def execInc_c (s : State) : Result := .next (incReg .c s)

/-- `DEC C` (0x0D, R202). -/
def execDec_c (s : State) : Result := .next (decReg .c s)

/-- `INC D` (0x14, R200). -/
def execInc_d (s : State) : Result := .next (incReg .d s)

/-- `DEC D` (0x15, R202). -/
def execDec_d (s : State) : Result := .next (decReg .d s)

/-- `INC E` (0x1C, R200). -/
def execInc_e (s : State) : Result := .next (incReg .e s)

/-- `DEC E` (0x1D, R202). -/
def execDec_e (s : State) : Result := .next (decReg .e s)

/-- `INC H` (0x24, R200). -/
def execInc_h (s : State) : Result := .next (incReg .h s)

/-- `DEC H` (0x25, R202). -/
def execDec_h (s : State) : Result := .next (decReg .h s)

/-- `INC L` (0x2C, R200). -/
def execInc_l (s : State) : Result := .next (incReg .l s)

/-- `DEC L` (0x2D, R202). -/
def execDec_l (s : State) : Result := .next (decReg .l s)

/-- `INC (HL)` (0x34, R201). -/
def execInc_atHL (s : State) : Result := .next (incAtHL s)

/-- `DEC (HL)` (0x35, R203). -/
def execDec_atHL (s : State) : Result := .next (decAtHL s)

/-- `INC A` (0x3C, R200). -/
def execInc_a (s : State) : Result := .next (incReg .a s)

/-- `DEC A` (0x3D, R202). -/
def execDec_a (s : State) : Result := .next (decReg .a s)

end Sys2Proof.Machine
end

