-- ==== Sys2Proof/Machine/Load16.lean ====
section
/-! DEFINITION. The 16-bit loads, push and pop (41_load16_stack.md): the shared effect of each form, then one meaning per instruction.
No flag is written but by POP AF (R149). -/

namespace Sys2Proof.Machine

/-! ## The effects -/

/-- `LD rr,nn` (R150). -/
def loadPairImm (p : PairP) (nn : Word) (s : State) : State := s.setPairP p nn

/-- `LD (nn),SP` (R151): the low byte at `nn`, the high byte at the next address. -/
def storeSPAbsolute (nn : Word) (s : State) : State := s.busWrite16 nn s.sp

/-- `LD SP,HL` (R152). -/
def loadSPFromHL (s : State) : State := s.withSp s.hl

/-- `PUSH qq` (R153): the high byte at SP-1, the low byte at SP-2, and SP less 2. -/
def pushPair (q : PairQ) (s : State) : State :=
  let v := s.getPairQ q
  (((s.busWrite (s.sp - 1) (hi v)).busWrite (s.sp - 2) (lo v))).withSp (s.sp - 2)

/-- `POP qq` (R154, R155): the low byte at SP, the high byte at SP+1, and SP plus 2. `setPairQ .af` masks F (R27). -/
def popPair (q : PairQ) (s : State) : State :=
  (s.setPairQ q (s.busRead16 s.sp)).withSp (s.sp + 2)

/-! ## The meanings -/

/-- `LD BC,nn` (0x01, R150). -/
def execLd_bc_nn (nn : Word) (s : State) : Result := .next (loadPairImm .bc nn s)

/-- `LD (nn),SP` (0x08, R151). -/
def execLd_atNN_sp (nn : Word) (s : State) : Result := .next (storeSPAbsolute nn s)

/-- `LD DE,nn` (0x11, R150). -/
def execLd_de_nn (nn : Word) (s : State) : Result := .next (loadPairImm .de nn s)

/-- `LD HL,nn` (0x21, R150). -/
def execLd_hl_nn (nn : Word) (s : State) : Result := .next (loadPairImm .hl nn s)

/-- `LD SP,nn` (0x31, R150). -/
def execLd_sp_nn (nn : Word) (s : State) : Result := .next (loadPairImm .sp nn s)

/-- `LD SP,HL` (0xF9, R152). -/
def execLd_sp_hl (s : State) : Result := .next (loadSPFromHL s)

/-- `POP BC` (0xC1, R154). -/
def execPop_bc (s : State) : Result := .next (popPair .bc s)

/-- `PUSH BC` (0xC5, R153). -/
def execPush_bc (s : State) : Result := .next (pushPair .bc s)

/-- `POP DE` (0xD1, R154). -/
def execPop_de (s : State) : Result := .next (popPair .de s)

/-- `PUSH DE` (0xD5, R153). -/
def execPush_de (s : State) : Result := .next (pushPair .de s)

/-- `POP HL` (0xE1, R154). -/
def execPop_hl (s : State) : Result := .next (popPair .hl s)

/-- `PUSH HL` (0xE5, R153). -/
def execPush_hl (s : State) : Result := .next (pushPair .hl s)

/-- `POP AF` (0xF1, R155). -/
def execPop_af (s : State) : Result := .next (popPair .af s)

/-- `PUSH AF` (0xF5, R153). -/
def execPush_af (s : State) : Result := .next (pushPair .af s)

end Sys2Proof.Machine
end

