-- ==== Sys2Proof/Machine/Load8.lean ====
section
/-! DEFINITION. The 8-bit loads and stores (40_load8.md): the shared effect of each form, then one meaning per instruction. A meaning is
the handler alone; the step adds the cost and advances the pc (30_encoding.md R98). None writes a flag (R120). -/

namespace Sys2Proof.Machine

/-! ## The effects -/

/-- `LD r,r'` (R121). -/
def loadRegReg (dst src : Reg8) (s : State) : State := s.setReg8 dst (s.getReg8 src)

/-- `LD r,(HL)` (R122): the address is formed before the register is written. -/
def loadRegFromHL (dst : Reg8) (s : State) : State := s.setReg8 dst (s.busRead s.hl)

/-- `LD (HL),r` (R123). -/
def storeRegAtHL (src : Reg8) (s : State) : State := s.busWrite s.hl (s.getReg8 src)

/-- `LD r,n` (R124). -/
def loadRegImm (dst : Reg8) (n : Byte) (s : State) : State := s.setReg8 dst n

/-- `LD (HL),n` (R125). -/
def storeImmAtHL (n : Byte) (s : State) : State := s.busWrite s.hl n

/-- `LD A,(BC)`, `LD A,(DE)`, `LD A,(HL+)`, `LD A,(HL-)` (R126, R127, R131, R133). -/
def loadAccIndirect (p : Pointer) (s : State) : State := (s.setA (s.busRead (s.pointerAddr p))).pointerPost p

/-- `LD (BC),A`, `LD (DE),A`, `LD (HL+),A`, `LD (HL-),A` (R128, R129, R130, R132). -/
def storeAccIndirect (p : Pointer) (s : State) : State := (s.busWrite (s.pointerAddr p) s.getA).pointerPost p

/-- `LD (nn),A` (R134). -/
def storeAccAbsolute (nn : Word) (s : State) : State := s.busWrite nn s.getA

/-- `LD A,(nn)` (R135). -/
def loadAccAbsolute (nn : Word) (s : State) : State := s.setA (s.busRead nn)

/-- `LDH (n),A` and `LD (C),A` (R136, R138): `n` is the low byte of the address. -/
def storeAccHighPage (n : Byte) (s : State) : State := s.busWrite (highPage n) s.getA

/-- `LDH A,(n)` and `LD A,(C)` (R137, R139). -/
def loadAccHighPage (n : Byte) (s : State) : State := s.setA (s.busRead (highPage n))

/-! ## The meanings -/

/-- `LD B,B` (0x40, R121). -/
def execLd_b_b (s : State) : Result := .next (loadRegReg .b .b s)

/-- `LD B,C` (0x41, R121). -/
def execLd_b_c (s : State) : Result := .next (loadRegReg .b .c s)

/-- `LD B,D` (0x42, R121). -/
def execLd_b_d (s : State) : Result := .next (loadRegReg .b .d s)

/-- `LD B,E` (0x43, R121). -/
def execLd_b_e (s : State) : Result := .next (loadRegReg .b .e s)

/-- `LD B,H` (0x44, R121). -/
def execLd_b_h (s : State) : Result := .next (loadRegReg .b .h s)

/-- `LD B,L` (0x45, R121). -/
def execLd_b_l (s : State) : Result := .next (loadRegReg .b .l s)

/-- `LD B,A` (0x47, R121). -/
def execLd_b_a (s : State) : Result := .next (loadRegReg .b .a s)

/-- `LD C,B` (0x48, R121). -/
def execLd_c_b (s : State) : Result := .next (loadRegReg .c .b s)

/-- `LD C,C` (0x49, R121). -/
def execLd_c_c (s : State) : Result := .next (loadRegReg .c .c s)

/-- `LD C,D` (0x4A, R121). -/
def execLd_c_d (s : State) : Result := .next (loadRegReg .c .d s)

/-- `LD C,E` (0x4B, R121). -/
def execLd_c_e (s : State) : Result := .next (loadRegReg .c .e s)

/-- `LD C,H` (0x4C, R121). -/
def execLd_c_h (s : State) : Result := .next (loadRegReg .c .h s)

/-- `LD C,L` (0x4D, R121). -/
def execLd_c_l (s : State) : Result := .next (loadRegReg .c .l s)

/-- `LD C,A` (0x4F, R121). -/
def execLd_c_a (s : State) : Result := .next (loadRegReg .c .a s)

/-- `LD D,B` (0x50, R121). -/
def execLd_d_b (s : State) : Result := .next (loadRegReg .d .b s)

/-- `LD D,C` (0x51, R121). -/
def execLd_d_c (s : State) : Result := .next (loadRegReg .d .c s)

/-- `LD D,D` (0x52, R121). -/
def execLd_d_d (s : State) : Result := .next (loadRegReg .d .d s)

/-- `LD D,E` (0x53, R121). -/
def execLd_d_e (s : State) : Result := .next (loadRegReg .d .e s)

/-- `LD D,H` (0x54, R121). -/
def execLd_d_h (s : State) : Result := .next (loadRegReg .d .h s)

/-- `LD D,L` (0x55, R121). -/
def execLd_d_l (s : State) : Result := .next (loadRegReg .d .l s)

/-- `LD D,A` (0x57, R121). -/
def execLd_d_a (s : State) : Result := .next (loadRegReg .d .a s)

/-- `LD E,B` (0x58, R121). -/
def execLd_e_b (s : State) : Result := .next (loadRegReg .e .b s)

/-- `LD E,C` (0x59, R121). -/
def execLd_e_c (s : State) : Result := .next (loadRegReg .e .c s)

/-- `LD E,D` (0x5A, R121). -/
def execLd_e_d (s : State) : Result := .next (loadRegReg .e .d s)

/-- `LD E,E` (0x5B, R121). -/
def execLd_e_e (s : State) : Result := .next (loadRegReg .e .e s)

/-- `LD E,H` (0x5C, R121). -/
def execLd_e_h (s : State) : Result := .next (loadRegReg .e .h s)

/-- `LD E,L` (0x5D, R121). -/
def execLd_e_l (s : State) : Result := .next (loadRegReg .e .l s)

/-- `LD E,A` (0x5F, R121). -/
def execLd_e_a (s : State) : Result := .next (loadRegReg .e .a s)

/-- `LD H,B` (0x60, R121). -/
def execLd_h_b (s : State) : Result := .next (loadRegReg .h .b s)

/-- `LD H,C` (0x61, R121). -/
def execLd_h_c (s : State) : Result := .next (loadRegReg .h .c s)

/-- `LD H,D` (0x62, R121). -/
def execLd_h_d (s : State) : Result := .next (loadRegReg .h .d s)

/-- `LD H,E` (0x63, R121). -/
def execLd_h_e (s : State) : Result := .next (loadRegReg .h .e s)

/-- `LD H,H` (0x64, R121). -/
def execLd_h_h (s : State) : Result := .next (loadRegReg .h .h s)

/-- `LD H,L` (0x65, R121). -/
def execLd_h_l (s : State) : Result := .next (loadRegReg .h .l s)

/-- `LD H,A` (0x67, R121). -/
def execLd_h_a (s : State) : Result := .next (loadRegReg .h .a s)

/-- `LD L,B` (0x68, R121). -/
def execLd_l_b (s : State) : Result := .next (loadRegReg .l .b s)

/-- `LD L,C` (0x69, R121). -/
def execLd_l_c (s : State) : Result := .next (loadRegReg .l .c s)

/-- `LD L,D` (0x6A, R121). -/
def execLd_l_d (s : State) : Result := .next (loadRegReg .l .d s)

/-- `LD L,E` (0x6B, R121). -/
def execLd_l_e (s : State) : Result := .next (loadRegReg .l .e s)

/-- `LD L,H` (0x6C, R121). -/
def execLd_l_h (s : State) : Result := .next (loadRegReg .l .h s)

/-- `LD L,L` (0x6D, R121). -/
def execLd_l_l (s : State) : Result := .next (loadRegReg .l .l s)

/-- `LD L,A` (0x6F, R121). -/
def execLd_l_a (s : State) : Result := .next (loadRegReg .l .a s)

/-- `LD A,B` (0x78, R121). -/
def execLd_a_b (s : State) : Result := .next (loadRegReg .a .b s)

/-- `LD A,C` (0x79, R121). -/
def execLd_a_c (s : State) : Result := .next (loadRegReg .a .c s)

/-- `LD A,D` (0x7A, R121). -/
def execLd_a_d (s : State) : Result := .next (loadRegReg .a .d s)

/-- `LD A,E` (0x7B, R121). -/
def execLd_a_e (s : State) : Result := .next (loadRegReg .a .e s)

/-- `LD A,H` (0x7C, R121). -/
def execLd_a_h (s : State) : Result := .next (loadRegReg .a .h s)

/-- `LD A,L` (0x7D, R121). -/
def execLd_a_l (s : State) : Result := .next (loadRegReg .a .l s)

/-- `LD A,A` (0x7F, R121). -/
def execLd_a_a (s : State) : Result := .next (loadRegReg .a .a s)

/-- `LD B,(HL)` (0x46, R122). -/
def execLd_b_atHL (s : State) : Result := .next (loadRegFromHL .b s)

/-- `LD C,(HL)` (0x4E, R122). -/
def execLd_c_atHL (s : State) : Result := .next (loadRegFromHL .c s)

/-- `LD D,(HL)` (0x56, R122). -/
def execLd_d_atHL (s : State) : Result := .next (loadRegFromHL .d s)

/-- `LD E,(HL)` (0x5E, R122). -/
def execLd_e_atHL (s : State) : Result := .next (loadRegFromHL .e s)

/-- `LD H,(HL)` (0x66, R122). -/
def execLd_h_atHL (s : State) : Result := .next (loadRegFromHL .h s)

/-- `LD L,(HL)` (0x6E, R122). -/
def execLd_l_atHL (s : State) : Result := .next (loadRegFromHL .l s)

/-- `LD (HL),B` (0x70, R123). -/
def execLd_atHL_b (s : State) : Result := .next (storeRegAtHL .b s)

/-- `LD (HL),C` (0x71, R123). -/
def execLd_atHL_c (s : State) : Result := .next (storeRegAtHL .c s)

/-- `LD (HL),D` (0x72, R123). -/
def execLd_atHL_d (s : State) : Result := .next (storeRegAtHL .d s)

/-- `LD (HL),E` (0x73, R123). -/
def execLd_atHL_e (s : State) : Result := .next (storeRegAtHL .e s)

/-- `LD (HL),H` (0x74, R123). -/
def execLd_atHL_h (s : State) : Result := .next (storeRegAtHL .h s)

/-- `LD (HL),L` (0x75, R123). -/
def execLd_atHL_l (s : State) : Result := .next (storeRegAtHL .l s)

/-- `LD (HL),A` (0x77, R123). -/
def execLd_atHL_a (s : State) : Result := .next (storeRegAtHL .a s)

/-- `LD A,(HL)` (0x7E, R122). -/
def execLd_a_atHL (s : State) : Result := .next (loadRegFromHL .a s)

/-- `LD B,n` (0x06, R124). -/
def execLd_b_n (n : Byte) (s : State) : Result := .next (loadRegImm .b n s)

/-- `LD C,n` (0x0E, R124). -/
def execLd_c_n (n : Byte) (s : State) : Result := .next (loadRegImm .c n s)

/-- `LD D,n` (0x16, R124). -/
def execLd_d_n (n : Byte) (s : State) : Result := .next (loadRegImm .d n s)

/-- `LD E,n` (0x1E, R124). -/
def execLd_e_n (n : Byte) (s : State) : Result := .next (loadRegImm .e n s)

/-- `LD H,n` (0x26, R124). -/
def execLd_h_n (n : Byte) (s : State) : Result := .next (loadRegImm .h n s)

/-- `LD L,n` (0x2E, R124). -/
def execLd_l_n (n : Byte) (s : State) : Result := .next (loadRegImm .l n s)

/-- `LD (HL),n` (0x36, R125). -/
def execLd_atHL_n (n : Byte) (s : State) : Result := .next (storeImmAtHL n s)

/-- `LD A,n` (0x3E, R124). -/
def execLd_a_n (n : Byte) (s : State) : Result := .next (loadRegImm .a n s)

/-- `LD (BC),A` (0x02, R128). -/
def execLd_atBC_a (s : State) : Result := .next (storeAccIndirect .bc s)

/-- `LD A,(BC)` (0x0A, R126). -/
def execLd_a_atBC (s : State) : Result := .next (loadAccIndirect .bc s)

/-- `LD (DE),A` (0x12, R129). -/
def execLd_atDE_a (s : State) : Result := .next (storeAccIndirect .de s)

/-- `LD A,(DE)` (0x1A, R127). -/
def execLd_a_atDE (s : State) : Result := .next (loadAccIndirect .de s)

/-- `LD (HL+),A` (0x22, R130). -/
def execLd_atHLinc_a (s : State) : Result := .next (storeAccIndirect .hlInc s)

/-- `LD A,(HL+)` (0x2A, R131). -/
def execLd_a_atHLinc (s : State) : Result := .next (loadAccIndirect .hlInc s)

/-- `LD (HL-),A` (0x32, R132). -/
def execLd_atHLdec_a (s : State) : Result := .next (storeAccIndirect .hlDec s)

/-- `LD A,(HL-)` (0x3A, R133). -/
def execLd_a_atHLdec (s : State) : Result := .next (loadAccIndirect .hlDec s)

/-- `LDH (n),A` (0xE0, R136). -/
def execLdh_atN_a (n : Byte) (s : State) : Result := .next (storeAccHighPage n s)

/-- `LD (C),A` (0xE2, R138). -/
def execLd_atC_a (s : State) : Result := .next (storeAccHighPage s.getC s)

/-- `LD (nn),A` (0xEA, R134). -/
def execLd_atNN_a (nn : Word) (s : State) : Result := .next (storeAccAbsolute nn s)

/-- `LDH A,(n)` (0xF0, R137). -/
def execLdh_a_atN (n : Byte) (s : State) : Result := .next (loadAccHighPage n s)

/-- `LD A,(C)` (0xF2, R139). -/
def execLd_a_atC (s : State) : Result := .next (loadAccHighPage s.getC s)

/-- `LD A,(nn)` (0xFA, R135). -/
def execLd_a_atNN (nn : Word) (s : State) : Result := .next (loadAccAbsolute nn s)

end Sys2Proof.Machine
end

