-- ==== Sys2Proof/Machine/Dispatch.lean ====
section
/-! DEFINITION. The dispatch: each instruction to its meaning. -/

namespace Sys2Proof.Machine

def exec (i : Instr) (s : State) : Host.Outcome State Fault Refusal :=
  match i with
  -- 8-bit loads between registers (40_load8.md R121)
  | .ld_b_b => Sys2Proof.Machine.execLd_b_b s
  | .ld_b_c => Sys2Proof.Machine.execLd_b_c s
  | .ld_b_d => Sys2Proof.Machine.execLd_b_d s
  | .ld_b_e => Sys2Proof.Machine.execLd_b_e s
  | .ld_b_h => Sys2Proof.Machine.execLd_b_h s
  | .ld_b_l => Sys2Proof.Machine.execLd_b_l s
  | .ld_b_a => Sys2Proof.Machine.execLd_b_a s
  | .ld_c_b => Sys2Proof.Machine.execLd_c_b s
  | .ld_c_c => Sys2Proof.Machine.execLd_c_c s
  | .ld_c_d => Sys2Proof.Machine.execLd_c_d s
  | .ld_c_e => Sys2Proof.Machine.execLd_c_e s
  | .ld_c_h => Sys2Proof.Machine.execLd_c_h s
  | .ld_c_l => Sys2Proof.Machine.execLd_c_l s
  | .ld_c_a => Sys2Proof.Machine.execLd_c_a s
  | .ld_d_b => Sys2Proof.Machine.execLd_d_b s
  | .ld_d_c => Sys2Proof.Machine.execLd_d_c s
  | .ld_d_d => Sys2Proof.Machine.execLd_d_d s
  | .ld_d_e => Sys2Proof.Machine.execLd_d_e s
  | .ld_d_h => Sys2Proof.Machine.execLd_d_h s
  | .ld_d_l => Sys2Proof.Machine.execLd_d_l s
  | .ld_d_a => Sys2Proof.Machine.execLd_d_a s
  | .ld_e_b => Sys2Proof.Machine.execLd_e_b s
  | .ld_e_c => Sys2Proof.Machine.execLd_e_c s
  | .ld_e_d => Sys2Proof.Machine.execLd_e_d s
  | .ld_e_e => Sys2Proof.Machine.execLd_e_e s
  | .ld_e_h => Sys2Proof.Machine.execLd_e_h s
  | .ld_e_l => Sys2Proof.Machine.execLd_e_l s
  | .ld_e_a => Sys2Proof.Machine.execLd_e_a s
  | .ld_h_b => Sys2Proof.Machine.execLd_h_b s
  | .ld_h_c => Sys2Proof.Machine.execLd_h_c s
  | .ld_h_d => Sys2Proof.Machine.execLd_h_d s
  | .ld_h_e => Sys2Proof.Machine.execLd_h_e s
  | .ld_h_h => Sys2Proof.Machine.execLd_h_h s
  | .ld_h_l => Sys2Proof.Machine.execLd_h_l s
  | .ld_h_a => Sys2Proof.Machine.execLd_h_a s
  | .ld_l_b => Sys2Proof.Machine.execLd_l_b s
  | .ld_l_c => Sys2Proof.Machine.execLd_l_c s
  | .ld_l_d => Sys2Proof.Machine.execLd_l_d s
  | .ld_l_e => Sys2Proof.Machine.execLd_l_e s
  | .ld_l_h => Sys2Proof.Machine.execLd_l_h s
  | .ld_l_l => Sys2Proof.Machine.execLd_l_l s
  | .ld_l_a => Sys2Proof.Machine.execLd_l_a s
  | .ld_a_b => Sys2Proof.Machine.execLd_a_b s
  | .ld_a_c => Sys2Proof.Machine.execLd_a_c s
  | .ld_a_d => Sys2Proof.Machine.execLd_a_d s
  | .ld_a_e => Sys2Proof.Machine.execLd_a_e s
  | .ld_a_h => Sys2Proof.Machine.execLd_a_h s
  | .ld_a_l => Sys2Proof.Machine.execLd_a_l s
  | .ld_a_a => Sys2Proof.Machine.execLd_a_a s
  -- 8-bit loads and stores through (HL) (R122, R123)
  | .ld_b_atHL => Sys2Proof.Machine.execLd_b_atHL s
  | .ld_c_atHL => Sys2Proof.Machine.execLd_c_atHL s
  | .ld_d_atHL => Sys2Proof.Machine.execLd_d_atHL s
  | .ld_e_atHL => Sys2Proof.Machine.execLd_e_atHL s
  | .ld_h_atHL => Sys2Proof.Machine.execLd_h_atHL s
  | .ld_l_atHL => Sys2Proof.Machine.execLd_l_atHL s
  | .ld_atHL_b => Sys2Proof.Machine.execLd_atHL_b s
  | .ld_atHL_c => Sys2Proof.Machine.execLd_atHL_c s
  | .ld_atHL_d => Sys2Proof.Machine.execLd_atHL_d s
  | .ld_atHL_e => Sys2Proof.Machine.execLd_atHL_e s
  | .ld_atHL_h => Sys2Proof.Machine.execLd_atHL_h s
  | .ld_atHL_l => Sys2Proof.Machine.execLd_atHL_l s
  | .ld_atHL_a => Sys2Proof.Machine.execLd_atHL_a s
  | .ld_a_atHL => Sys2Proof.Machine.execLd_a_atHL s
  -- 8-bit loads of an immediate (R124, R125)
  | .ld_b_n n => Sys2Proof.Machine.execLd_b_n n s
  | .ld_c_n n => Sys2Proof.Machine.execLd_c_n n s
  | .ld_d_n n => Sys2Proof.Machine.execLd_d_n n s
  | .ld_e_n n => Sys2Proof.Machine.execLd_e_n n s
  | .ld_h_n n => Sys2Proof.Machine.execLd_h_n n s
  | .ld_l_n n => Sys2Proof.Machine.execLd_l_n n s
  | .ld_atHL_n n => Sys2Proof.Machine.execLd_atHL_n n s
  | .ld_a_n n => Sys2Proof.Machine.execLd_a_n n s
  -- indirect accumulator loads and stores (R126 to R133)
  | .ld_atBC_a => Sys2Proof.Machine.execLd_atBC_a s
  | .ld_a_atBC => Sys2Proof.Machine.execLd_a_atBC s
  | .ld_atDE_a => Sys2Proof.Machine.execLd_atDE_a s
  | .ld_a_atDE => Sys2Proof.Machine.execLd_a_atDE s
  | .ld_atHLinc_a => Sys2Proof.Machine.execLd_atHLinc_a s
  | .ld_a_atHLinc => Sys2Proof.Machine.execLd_a_atHLinc s
  | .ld_atHLdec_a => Sys2Proof.Machine.execLd_atHLdec_a s
  | .ld_a_atHLdec => Sys2Proof.Machine.execLd_a_atHLdec s
  -- absolute and high-page accumulator loads and stores (R134 to R139)
  | .ldh_atN_a n => Sys2Proof.Machine.execLdh_atN_a n s
  | .ld_atC_a => Sys2Proof.Machine.execLd_atC_a s
  | .ld_atNN_a nn => Sys2Proof.Machine.execLd_atNN_a nn s
  | .ldh_a_atN n => Sys2Proof.Machine.execLdh_a_atN n s
  | .ld_a_atC => Sys2Proof.Machine.execLd_a_atC s
  | .ld_a_atNN nn => Sys2Proof.Machine.execLd_a_atNN nn s
  -- 16-bit loads (41_load16_stack.md R150 to R152)
  | .ld_bc_nn nn => Sys2Proof.Machine.execLd_bc_nn nn s
  | .ld_atNN_sp nn => Sys2Proof.Machine.execLd_atNN_sp nn s
  | .ld_de_nn nn => Sys2Proof.Machine.execLd_de_nn nn s
  | .ld_hl_nn nn => Sys2Proof.Machine.execLd_hl_nn nn s
  | .ld_sp_nn nn => Sys2Proof.Machine.execLd_sp_nn nn s
  | .ld_sp_hl => Sys2Proof.Machine.execLd_sp_hl s
  -- push and pop (R153 to R155)
  | .pop_bc => Sys2Proof.Machine.execPop_bc s
  | .push_bc => Sys2Proof.Machine.execPush_bc s
  | .pop_de => Sys2Proof.Machine.execPop_de s
  | .push_de => Sys2Proof.Machine.execPush_de s
  | .pop_hl => Sys2Proof.Machine.execPop_hl s
  | .push_hl => Sys2Proof.Machine.execPush_hl s
  | .pop_af => Sys2Proof.Machine.execPop_af s
  | .push_af => Sys2Proof.Machine.execPush_af s
  -- ADD (42_alu8.md R173)
  | .add_a_b => Sys2Proof.Machine.execAdd_a_b s
  | .add_a_c => Sys2Proof.Machine.execAdd_a_c s
  | .add_a_d => Sys2Proof.Machine.execAdd_a_d s
  | .add_a_e => Sys2Proof.Machine.execAdd_a_e s
  | .add_a_h => Sys2Proof.Machine.execAdd_a_h s
  | .add_a_l => Sys2Proof.Machine.execAdd_a_l s
  | .add_a_atHL => Sys2Proof.Machine.execAdd_a_atHL s
  | .add_a_a => Sys2Proof.Machine.execAdd_a_a s
  | .add_a_n n => Sys2Proof.Machine.execAdd_a_n n s
  -- ADC (42_alu8.md R174)
  | .adc_a_b => Sys2Proof.Machine.execAdc_a_b s
  | .adc_a_c => Sys2Proof.Machine.execAdc_a_c s
  | .adc_a_d => Sys2Proof.Machine.execAdc_a_d s
  | .adc_a_e => Sys2Proof.Machine.execAdc_a_e s
  | .adc_a_h => Sys2Proof.Machine.execAdc_a_h s
  | .adc_a_l => Sys2Proof.Machine.execAdc_a_l s
  | .adc_a_atHL => Sys2Proof.Machine.execAdc_a_atHL s
  | .adc_a_a => Sys2Proof.Machine.execAdc_a_a s
  | .adc_a_n n => Sys2Proof.Machine.execAdc_a_n n s
  -- SUB (42_alu8.md R175)
  | .sub_b => Sys2Proof.Machine.execSub_b s
  | .sub_c => Sys2Proof.Machine.execSub_c s
  | .sub_d => Sys2Proof.Machine.execSub_d s
  | .sub_e => Sys2Proof.Machine.execSub_e s
  | .sub_h => Sys2Proof.Machine.execSub_h s
  | .sub_l => Sys2Proof.Machine.execSub_l s
  | .sub_atHL => Sys2Proof.Machine.execSub_atHL s
  | .sub_a => Sys2Proof.Machine.execSub_a s
  | .sub_n n => Sys2Proof.Machine.execSub_n n s
  -- SBC (42_alu8.md R176)
  | .sbc_a_b => Sys2Proof.Machine.execSbc_a_b s
  | .sbc_a_c => Sys2Proof.Machine.execSbc_a_c s
  | .sbc_a_d => Sys2Proof.Machine.execSbc_a_d s
  | .sbc_a_e => Sys2Proof.Machine.execSbc_a_e s
  | .sbc_a_h => Sys2Proof.Machine.execSbc_a_h s
  | .sbc_a_l => Sys2Proof.Machine.execSbc_a_l s
  | .sbc_a_atHL => Sys2Proof.Machine.execSbc_a_atHL s
  | .sbc_a_a => Sys2Proof.Machine.execSbc_a_a s
  | .sbc_a_n n => Sys2Proof.Machine.execSbc_a_n n s
  -- AND (42_alu8.md R177)
  | .and_b => Sys2Proof.Machine.execAnd_b s
  | .and_c => Sys2Proof.Machine.execAnd_c s
  | .and_d => Sys2Proof.Machine.execAnd_d s
  | .and_e => Sys2Proof.Machine.execAnd_e s
  | .and_h => Sys2Proof.Machine.execAnd_h s
  | .and_l => Sys2Proof.Machine.execAnd_l s
  | .and_atHL => Sys2Proof.Machine.execAnd_atHL s
  | .and_a => Sys2Proof.Machine.execAnd_a s
  | .and_n n => Sys2Proof.Machine.execAnd_n n s
  -- XOR (42_alu8.md R178)
  | .xor_b => Sys2Proof.Machine.execXor_b s
  | .xor_c => Sys2Proof.Machine.execXor_c s
  | .xor_d => Sys2Proof.Machine.execXor_d s
  | .xor_e => Sys2Proof.Machine.execXor_e s
  | .xor_h => Sys2Proof.Machine.execXor_h s
  | .xor_l => Sys2Proof.Machine.execXor_l s
  | .xor_atHL => Sys2Proof.Machine.execXor_atHL s
  | .xor_a => Sys2Proof.Machine.execXor_a s
  | .xor_n n => Sys2Proof.Machine.execXor_n n s
  -- OR (42_alu8.md R179)
  | .or_b => Sys2Proof.Machine.execOr_b s
  | .or_c => Sys2Proof.Machine.execOr_c s
  | .or_d => Sys2Proof.Machine.execOr_d s
  | .or_e => Sys2Proof.Machine.execOr_e s
  | .or_h => Sys2Proof.Machine.execOr_h s
  | .or_l => Sys2Proof.Machine.execOr_l s
  | .or_atHL => Sys2Proof.Machine.execOr_atHL s
  | .or_a => Sys2Proof.Machine.execOr_a s
  | .or_n n => Sys2Proof.Machine.execOr_n n s
  -- CP (42_alu8.md R180)
  | .cp_b => Sys2Proof.Machine.execCp_b s
  | .cp_c => Sys2Proof.Machine.execCp_c s
  | .cp_d => Sys2Proof.Machine.execCp_d s
  | .cp_e => Sys2Proof.Machine.execCp_e s
  | .cp_h => Sys2Proof.Machine.execCp_h s
  | .cp_l => Sys2Proof.Machine.execCp_l s
  | .cp_atHL => Sys2Proof.Machine.execCp_atHL s
  | .cp_a => Sys2Proof.Machine.execCp_a s
  | .cp_n n => Sys2Proof.Machine.execCp_n n s
  -- 8-bit increment and decrement (43_incdec.md R200 to R203)
  | .inc_b => Sys2Proof.Machine.execInc_b s
  | .dec_b => Sys2Proof.Machine.execDec_b s
  | .inc_c => Sys2Proof.Machine.execInc_c s
  | .dec_c => Sys2Proof.Machine.execDec_c s
  | .inc_d => Sys2Proof.Machine.execInc_d s
  | .dec_d => Sys2Proof.Machine.execDec_d s
  | .inc_e => Sys2Proof.Machine.execInc_e s
  | .dec_e => Sys2Proof.Machine.execDec_e s
  | .inc_h => Sys2Proof.Machine.execInc_h s
  | .dec_h => Sys2Proof.Machine.execDec_h s
  | .inc_l => Sys2Proof.Machine.execInc_l s
  | .dec_l => Sys2Proof.Machine.execDec_l s
  | .inc_atHL => Sys2Proof.Machine.execInc_atHL s
  | .dec_atHL => Sys2Proof.Machine.execDec_atHL s
  | .inc_a => Sys2Proof.Machine.execInc_a s
  | .dec_a => Sys2Proof.Machine.execDec_a s
  -- the absolute jump (44_jump.md R210)
  | .jp_nn nn => Sys2Proof.Machine.execJp_nn nn s
  -- a byte with no handler (60_exceptions.md R221)
  | .unknown op => Sys2Proof.Machine.execUnknown op s

end Sys2Proof.Machine
end

