-- ==== Sys2Proof/WellFormed.lean ====
section
/-! DEFINITION. Which instructions are well formed. Every operand of a handled instruction may hold any value of its type, so the
one check is on `unknown`: its byte is one of the 68 of 30_encoding.md R93. -/

namespace Sys2Proof

/-- The 68 opcodes outside the handler set, as 30_encoding.md R93 lists them. -/
def unknownOpcodes : List Byte :=
  [0x00, 0x03, 0x07, 0x09, 0x0B, 0x0F, 0x10, 0x13, 0x17, 0x18, 0x19, 0x1B, 0x1F, 0x20, 0x23, 0x27, 0x28] ++
  [0x29, 0x2B, 0x2F, 0x30, 0x33, 0x37, 0x38, 0x39, 0x3B, 0x3F, 0x76, 0xC0, 0xC2, 0xC4, 0xC7, 0xC8, 0xC9] ++
  [0xCA, 0xCB, 0xCC, 0xCD, 0xCF, 0xD0, 0xD2, 0xD3, 0xD4, 0xD7, 0xD8, 0xD9, 0xDA, 0xDB, 0xDC, 0xDD, 0xDF] ++
  [0xE3, 0xE4, 0xE7, 0xE8, 0xE9, 0xEB, 0xEC, 0xED, 0xEF, 0xF3, 0xF4, 0xF7, 0xF8, 0xFB, 0xFC, 0xFD, 0xFF]

/-- An instruction some byte sequence decodes to: `unknown op` only for an opcode with no handler (30_encoding.md R93, R94). -/
def Instr.wellFormed : Instr → Bool
  | .unknown op => unknownOpcodes.contains op
  | .ld_b_b | .ld_b_c | .ld_b_d | .ld_b_e | .ld_b_h | .ld_b_l
  | .ld_b_a | .ld_c_b | .ld_c_c | .ld_c_d | .ld_c_e | .ld_c_h
  | .ld_c_l | .ld_c_a | .ld_d_b | .ld_d_c | .ld_d_d | .ld_d_e
  | .ld_d_h | .ld_d_l | .ld_d_a | .ld_e_b | .ld_e_c | .ld_e_d
  | .ld_e_e | .ld_e_h | .ld_e_l | .ld_e_a | .ld_h_b | .ld_h_c
  | .ld_h_d | .ld_h_e | .ld_h_h | .ld_h_l | .ld_h_a | .ld_l_b
  | .ld_l_c | .ld_l_d | .ld_l_e | .ld_l_h | .ld_l_l | .ld_l_a
  | .ld_a_b | .ld_a_c | .ld_a_d | .ld_a_e | .ld_a_h | .ld_a_l
  | .ld_a_a
  | .ld_b_atHL | .ld_c_atHL | .ld_d_atHL | .ld_e_atHL | .ld_h_atHL | .ld_l_atHL
  | .ld_atHL_b | .ld_atHL_c | .ld_atHL_d | .ld_atHL_e | .ld_atHL_h | .ld_atHL_l
  | .ld_atHL_a | .ld_a_atHL
  | .ld_b_n _ | .ld_c_n _ | .ld_d_n _ | .ld_e_n _ | .ld_h_n _ | .ld_l_n _
  | .ld_atHL_n _ | .ld_a_n _
  | .ld_atBC_a | .ld_a_atBC | .ld_atDE_a | .ld_a_atDE | .ld_atHLinc_a | .ld_a_atHLinc
  | .ld_atHLdec_a | .ld_a_atHLdec
  | .ldh_atN_a _ | .ld_atC_a | .ld_atNN_a _ | .ldh_a_atN _ | .ld_a_atC | .ld_a_atNN _
  | .ld_bc_nn _ | .ld_atNN_sp _ | .ld_de_nn _ | .ld_hl_nn _ | .ld_sp_nn _ | .ld_sp_hl
  | .pop_bc | .push_bc | .pop_de | .push_de | .pop_hl | .push_hl
  | .pop_af | .push_af
  | .add_a_b | .add_a_c | .add_a_d | .add_a_e | .add_a_h | .add_a_l
  | .add_a_atHL | .add_a_a | .add_a_n _
  | .adc_a_b | .adc_a_c | .adc_a_d | .adc_a_e | .adc_a_h | .adc_a_l
  | .adc_a_atHL | .adc_a_a | .adc_a_n _
  | .sub_b | .sub_c | .sub_d | .sub_e | .sub_h | .sub_l
  | .sub_atHL | .sub_a | .sub_n _
  | .sbc_a_b | .sbc_a_c | .sbc_a_d | .sbc_a_e | .sbc_a_h | .sbc_a_l
  | .sbc_a_atHL | .sbc_a_a | .sbc_a_n _
  | .and_b | .and_c | .and_d | .and_e | .and_h | .and_l
  | .and_atHL | .and_a | .and_n _
  | .xor_b | .xor_c | .xor_d | .xor_e | .xor_h | .xor_l
  | .xor_atHL | .xor_a | .xor_n _
  | .or_b | .or_c | .or_d | .or_e | .or_h | .or_l
  | .or_atHL | .or_a | .or_n _
  | .cp_b | .cp_c | .cp_d | .cp_e | .cp_h | .cp_l
  | .cp_atHL | .cp_a | .cp_n _
  | .inc_b | .dec_b | .inc_c | .dec_c | .inc_d | .dec_d
  | .inc_e | .dec_e | .inc_h | .dec_h | .inc_l | .dec_l
  | .inc_atHL | .dec_atHL | .inc_a | .dec_a
  | .jp_nn _ => true

end Sys2Proof
end

