-- ==== Sys2Proof/Decode.lean ====
section
/-! DEFINITION. The decoder, transcribed from the opcode map (30_encoding.md R90), and the encoder, written from the bit patterns of the
handler set (R81 to R88). -/

namespace Sys2Proof

open Sys2Proof.Machine (join hi lo)

/-! ## The dispatch ROM -/

/-- A dispatch-ROM entry (30_encoding.md R89): the handler's instruction with its operand format F1, F2 or F3 (R80), or `Unknown`. -/
inductive RomEntry where
  | f1 (i : Instr)
  | f2 (make : Byte → Instr)
  | f3 (make : Word → Instr)
  | unknown

namespace RomEntry

/-- Row 0x of the opcode map (30_encoding.md R90). -/
def row0 : List RomEntry :=
  [.unknown, .f3 .ld_bc_nn, .f1 .ld_atBC_a, .unknown,
   .f1 .inc_b, .f1 .dec_b, .f2 .ld_b_n, .unknown,
   .f3 .ld_atNN_sp, .unknown, .f1 .ld_a_atBC, .unknown,
   .f1 .inc_c, .f1 .dec_c, .f2 .ld_c_n, .unknown]

/-- Row 1x of the opcode map (30_encoding.md R90). -/
def row1 : List RomEntry :=
  [.unknown, .f3 .ld_de_nn, .f1 .ld_atDE_a, .unknown,
   .f1 .inc_d, .f1 .dec_d, .f2 .ld_d_n, .unknown,
   .unknown, .unknown, .f1 .ld_a_atDE, .unknown,
   .f1 .inc_e, .f1 .dec_e, .f2 .ld_e_n, .unknown]

/-- Row 2x of the opcode map (30_encoding.md R90). -/
def row2 : List RomEntry :=
  [.unknown, .f3 .ld_hl_nn, .f1 .ld_atHLinc_a, .unknown,
   .f1 .inc_h, .f1 .dec_h, .f2 .ld_h_n, .unknown,
   .unknown, .unknown, .f1 .ld_a_atHLinc, .unknown,
   .f1 .inc_l, .f1 .dec_l, .f2 .ld_l_n, .unknown]

/-- Row 3x of the opcode map (30_encoding.md R90). -/
def row3 : List RomEntry :=
  [.unknown, .f3 .ld_sp_nn, .f1 .ld_atHLdec_a, .unknown,
   .f1 .inc_atHL, .f1 .dec_atHL, .f2 .ld_atHL_n, .unknown,
   .unknown, .unknown, .f1 .ld_a_atHLdec, .unknown,
   .f1 .inc_a, .f1 .dec_a, .f2 .ld_a_n, .unknown]

/-- Row 4x of the opcode map (30_encoding.md R90). -/
def row4 : List RomEntry :=
  [.f1 .ld_b_b, .f1 .ld_b_c, .f1 .ld_b_d, .f1 .ld_b_e,
   .f1 .ld_b_h, .f1 .ld_b_l, .f1 .ld_b_atHL, .f1 .ld_b_a,
   .f1 .ld_c_b, .f1 .ld_c_c, .f1 .ld_c_d, .f1 .ld_c_e,
   .f1 .ld_c_h, .f1 .ld_c_l, .f1 .ld_c_atHL, .f1 .ld_c_a]

/-- Row 5x of the opcode map (30_encoding.md R90). -/
def row5 : List RomEntry :=
  [.f1 .ld_d_b, .f1 .ld_d_c, .f1 .ld_d_d, .f1 .ld_d_e,
   .f1 .ld_d_h, .f1 .ld_d_l, .f1 .ld_d_atHL, .f1 .ld_d_a,
   .f1 .ld_e_b, .f1 .ld_e_c, .f1 .ld_e_d, .f1 .ld_e_e,
   .f1 .ld_e_h, .f1 .ld_e_l, .f1 .ld_e_atHL, .f1 .ld_e_a]

/-- Row 6x of the opcode map (30_encoding.md R90). -/
def row6 : List RomEntry :=
  [.f1 .ld_h_b, .f1 .ld_h_c, .f1 .ld_h_d, .f1 .ld_h_e,
   .f1 .ld_h_h, .f1 .ld_h_l, .f1 .ld_h_atHL, .f1 .ld_h_a,
   .f1 .ld_l_b, .f1 .ld_l_c, .f1 .ld_l_d, .f1 .ld_l_e,
   .f1 .ld_l_h, .f1 .ld_l_l, .f1 .ld_l_atHL, .f1 .ld_l_a]

/-- Row 7x of the opcode map (30_encoding.md R90). -/
def row7 : List RomEntry :=
  [.f1 .ld_atHL_b, .f1 .ld_atHL_c, .f1 .ld_atHL_d, .f1 .ld_atHL_e,
   .f1 .ld_atHL_h, .f1 .ld_atHL_l, .unknown, .f1 .ld_atHL_a,
   .f1 .ld_a_b, .f1 .ld_a_c, .f1 .ld_a_d, .f1 .ld_a_e,
   .f1 .ld_a_h, .f1 .ld_a_l, .f1 .ld_a_atHL, .f1 .ld_a_a]

/-- Row 8x of the opcode map (30_encoding.md R90). -/
def row8 : List RomEntry :=
  [.f1 .add_a_b, .f1 .add_a_c, .f1 .add_a_d, .f1 .add_a_e,
   .f1 .add_a_h, .f1 .add_a_l, .f1 .add_a_atHL, .f1 .add_a_a,
   .f1 .adc_a_b, .f1 .adc_a_c, .f1 .adc_a_d, .f1 .adc_a_e,
   .f1 .adc_a_h, .f1 .adc_a_l, .f1 .adc_a_atHL, .f1 .adc_a_a]

/-- Row 9x of the opcode map (30_encoding.md R90). -/
def row9 : List RomEntry :=
  [.f1 .sub_b, .f1 .sub_c, .f1 .sub_d, .f1 .sub_e,
   .f1 .sub_h, .f1 .sub_l, .f1 .sub_atHL, .f1 .sub_a,
   .f1 .sbc_a_b, .f1 .sbc_a_c, .f1 .sbc_a_d, .f1 .sbc_a_e,
   .f1 .sbc_a_h, .f1 .sbc_a_l, .f1 .sbc_a_atHL, .f1 .sbc_a_a]

/-- Row Ax of the opcode map (30_encoding.md R90). -/
def rowA : List RomEntry :=
  [.f1 .and_b, .f1 .and_c, .f1 .and_d, .f1 .and_e,
   .f1 .and_h, .f1 .and_l, .f1 .and_atHL, .f1 .and_a,
   .f1 .xor_b, .f1 .xor_c, .f1 .xor_d, .f1 .xor_e,
   .f1 .xor_h, .f1 .xor_l, .f1 .xor_atHL, .f1 .xor_a]

/-- Row Bx of the opcode map (30_encoding.md R90). -/
def rowB : List RomEntry :=
  [.f1 .or_b, .f1 .or_c, .f1 .or_d, .f1 .or_e,
   .f1 .or_h, .f1 .or_l, .f1 .or_atHL, .f1 .or_a,
   .f1 .cp_b, .f1 .cp_c, .f1 .cp_d, .f1 .cp_e,
   .f1 .cp_h, .f1 .cp_l, .f1 .cp_atHL, .f1 .cp_a]

/-- Row Cx of the opcode map (30_encoding.md R90). -/
def rowC : List RomEntry :=
  [.unknown, .f1 .pop_bc, .unknown, .f3 .jp_nn,
   .unknown, .f1 .push_bc, .f2 .add_a_n, .unknown,
   .unknown, .unknown, .unknown, .unknown,
   .unknown, .unknown, .f2 .adc_a_n, .unknown]

/-- Row Dx of the opcode map (30_encoding.md R90). -/
def rowD : List RomEntry :=
  [.unknown, .f1 .pop_de, .unknown, .unknown,
   .unknown, .f1 .push_de, .f2 .sub_n, .unknown,
   .unknown, .unknown, .unknown, .unknown,
   .unknown, .unknown, .f2 .sbc_a_n, .unknown]

/-- Row Ex of the opcode map (30_encoding.md R90). -/
def rowE : List RomEntry :=
  [.f2 .ldh_atN_a, .f1 .pop_hl, .f1 .ld_atC_a, .unknown,
   .unknown, .f1 .push_hl, .f2 .and_n, .unknown,
   .unknown, .unknown, .f3 .ld_atNN_a, .unknown,
   .unknown, .unknown, .f2 .xor_n, .unknown]

/-- Row Fx of the opcode map (30_encoding.md R90). -/
def rowF : List RomEntry :=
  [.f2 .ldh_a_atN, .f1 .pop_af, .f1 .ld_a_atC, .unknown,
   .unknown, .f1 .push_af, .f2 .or_n, .unknown,
   .unknown, .f1 .ld_sp_hl, .f3 .ld_a_atNN, .unknown,
   .unknown, .unknown, .f2 .cp_n, .unknown]

/-- The opcode map of 30_encoding.md R90: sixteen rows, by high nibble. -/
def rows : List (List RomEntry) :=
  [row0, row1, row2, row3, row4, row5, row6, row7] ++ [row8, row9, rowA, rowB, rowC, rowD, rowE, rowF]

end RomEntry

/-- The entry of opcode `op` (30_encoding.md R89): row = high nibble, column = low nibble. -/
def romEntry (op : Byte) : RomEntry :=
  (RomEntry.rows.getD (op.toNat / 16) []).getD (op.toNat % 16) .unknown

/-- `len(op)` of 30_encoding.md R89 and R92: 1, 2 or 3 bytes, from the opcode alone. An unknown opcode is its one byte. -/
def instrLen (op : Byte) : Nat :=
  match romEntry op with
  | .f1 _ => 1
  | .f2 _ => 2
  | .f3 _ => 3
  | .unknown => 1

/-! ## Decoding a byte sequence -/

/-- Why a byte sequence is not a whole instruction. Raised by `decode` alone, on a list that ends too early; a step reads its bytes
from memory, where every address holds one (20_memory.md R50), and never meets it. Safe. -/
inductive DecodeError where
  /-- there is no opcode byte -/
  | noOpcode
  /-- the operand bytes of `op` are missing -/
  | missingOperand (op : Byte)
deriving DecidableEq, Repr

/-- The instruction at the head of a byte sequence, and the bytes after it. The first operand byte of F3 is the low byte
(30_encoding.md R82). Every opcode has a meaning here: one with no handler decodes to `unknown` (R94, R96). -/
def decode : List Byte → Except DecodeError (Instr × List Byte)
  | [] => .error .noOpcode
  | op :: rest =>
    match romEntry op, rest with
    | .f1 i, _ => .ok (i, rest)
    | .f2 make, n :: rest' => .ok (make n, rest')
    | .f2 _, [] => .error (.missingOperand op)
    | .f3 make, first :: second :: rest' => .ok (make (join second first), rest')
    | .f3 _, [_] => .error (.missingOperand op)
    | .f3 _, [] => .error (.missingOperand op)
    | .unknown, _ => .ok (.unknown op, rest)

/-- Byte `k` of a table word: the opcode table numbers bit 0 as the least significant bit of the first byte. -/
def tableByte (nbits w k : Nat) : Byte :=
  BitVec.ofNat 8 (w % 2 ^ nbits / 2 ^ (8 * k))

/-- The three bytes (the longest instruction, 30_encoding.md R80) of a table word, the first at the lowest address. -/
def tableBytes (nbits w : Nat) : List Byte :=
  [tableByte nbits w 0, tableByte nbits w 1, tableByte nbits w 2]

/-- The instruction the decoder reads from a table word. -/
def decodeTableWord (nbits w : Nat) : Option Instr :=
  match decode (tableBytes nbits w) with
  | .ok (i, _) => some i
  | .error _ => none

/-! ## Encoding -/

/-- The form of each instruction: the operands its name in the opcode map selects. -/
def Instr.form : Instr → Form
  -- 8-bit loads between registers (40_load8.md R121)
  | .ld_b_b => .ldRR .b .b
  | .ld_b_c => .ldRR .b .c
  | .ld_b_d => .ldRR .b .d
  | .ld_b_e => .ldRR .b .e
  | .ld_b_h => .ldRR .b .h
  | .ld_b_l => .ldRR .b .l
  | .ld_b_a => .ldRR .b .a
  | .ld_c_b => .ldRR .c .b
  | .ld_c_c => .ldRR .c .c
  | .ld_c_d => .ldRR .c .d
  | .ld_c_e => .ldRR .c .e
  | .ld_c_h => .ldRR .c .h
  | .ld_c_l => .ldRR .c .l
  | .ld_c_a => .ldRR .c .a
  | .ld_d_b => .ldRR .d .b
  | .ld_d_c => .ldRR .d .c
  | .ld_d_d => .ldRR .d .d
  | .ld_d_e => .ldRR .d .e
  | .ld_d_h => .ldRR .d .h
  | .ld_d_l => .ldRR .d .l
  | .ld_d_a => .ldRR .d .a
  | .ld_e_b => .ldRR .e .b
  | .ld_e_c => .ldRR .e .c
  | .ld_e_d => .ldRR .e .d
  | .ld_e_e => .ldRR .e .e
  | .ld_e_h => .ldRR .e .h
  | .ld_e_l => .ldRR .e .l
  | .ld_e_a => .ldRR .e .a
  | .ld_h_b => .ldRR .h .b
  | .ld_h_c => .ldRR .h .c
  | .ld_h_d => .ldRR .h .d
  | .ld_h_e => .ldRR .h .e
  | .ld_h_h => .ldRR .h .h
  | .ld_h_l => .ldRR .h .l
  | .ld_h_a => .ldRR .h .a
  | .ld_l_b => .ldRR .l .b
  | .ld_l_c => .ldRR .l .c
  | .ld_l_d => .ldRR .l .d
  | .ld_l_e => .ldRR .l .e
  | .ld_l_h => .ldRR .l .h
  | .ld_l_l => .ldRR .l .l
  | .ld_l_a => .ldRR .l .a
  | .ld_a_b => .ldRR .a .b
  | .ld_a_c => .ldRR .a .c
  | .ld_a_d => .ldRR .a .d
  | .ld_a_e => .ldRR .a .e
  | .ld_a_h => .ldRR .a .h
  | .ld_a_l => .ldRR .a .l
  | .ld_a_a => .ldRR .a .a
  -- 8-bit loads and stores through (HL) (R122, R123)
  | .ld_b_atHL => .ldRHL .b
  | .ld_c_atHL => .ldRHL .c
  | .ld_d_atHL => .ldRHL .d
  | .ld_e_atHL => .ldRHL .e
  | .ld_h_atHL => .ldRHL .h
  | .ld_l_atHL => .ldRHL .l
  | .ld_atHL_b => .ldHLR .b
  | .ld_atHL_c => .ldHLR .c
  | .ld_atHL_d => .ldHLR .d
  | .ld_atHL_e => .ldHLR .e
  | .ld_atHL_h => .ldHLR .h
  | .ld_atHL_l => .ldHLR .l
  | .ld_atHL_a => .ldHLR .a
  | .ld_a_atHL => .ldRHL .a
  -- 8-bit loads of an immediate (R124, R125)
  | .ld_b_n n => .ldRN .b n
  | .ld_c_n n => .ldRN .c n
  | .ld_d_n n => .ldRN .d n
  | .ld_e_n n => .ldRN .e n
  | .ld_h_n n => .ldRN .h n
  | .ld_l_n n => .ldRN .l n
  | .ld_atHL_n n => .ldHLN n
  | .ld_a_n n => .ldRN .a n
  -- indirect accumulator loads and stores (R126 to R133)
  | .ld_atBC_a => .ldIndA .bc
  | .ld_a_atBC => .ldAInd .bc
  | .ld_atDE_a => .ldIndA .de
  | .ld_a_atDE => .ldAInd .de
  | .ld_atHLinc_a => .ldIndA .hlInc
  | .ld_a_atHLinc => .ldAInd .hlInc
  | .ld_atHLdec_a => .ldIndA .hlDec
  | .ld_a_atHLdec => .ldAInd .hlDec
  -- absolute and high-page accumulator loads and stores (R134 to R139)
  | .ldh_atN_a n => .ldhNA n
  | .ld_atC_a => .ldCA
  | .ld_atNN_a nn => .ldNNA nn
  | .ldh_a_atN n => .ldhAN n
  | .ld_a_atC => .ldAC
  | .ld_a_atNN nn => .ldANN nn
  -- 16-bit loads (41_load16_stack.md R150 to R152)
  | .ld_bc_nn nn => .ldPairNN .bc nn
  | .ld_atNN_sp nn => .ldNNSP nn
  | .ld_de_nn nn => .ldPairNN .de nn
  | .ld_hl_nn nn => .ldPairNN .hl nn
  | .ld_sp_nn nn => .ldPairNN .sp nn
  | .ld_sp_hl => .ldSPHL
  -- push and pop (R153 to R155)
  | .pop_bc => .pop .bc
  | .push_bc => .push .bc
  | .pop_de => .pop .de
  | .push_de => .push .de
  | .pop_hl => .pop .hl
  | .push_hl => .push .hl
  | .pop_af => .pop .af
  | .push_af => .push .af
  -- ADD (42_alu8.md R173)
  | .add_a_b => .alu .add (.reg .b)
  | .add_a_c => .alu .add (.reg .c)
  | .add_a_d => .alu .add (.reg .d)
  | .add_a_e => .alu .add (.reg .e)
  | .add_a_h => .alu .add (.reg .h)
  | .add_a_l => .alu .add (.reg .l)
  | .add_a_atHL => .alu .add .atHL
  | .add_a_a => .alu .add (.reg .a)
  | .add_a_n n => .alu .add (.imm n)
  -- ADC (42_alu8.md R174)
  | .adc_a_b => .alu .adc (.reg .b)
  | .adc_a_c => .alu .adc (.reg .c)
  | .adc_a_d => .alu .adc (.reg .d)
  | .adc_a_e => .alu .adc (.reg .e)
  | .adc_a_h => .alu .adc (.reg .h)
  | .adc_a_l => .alu .adc (.reg .l)
  | .adc_a_atHL => .alu .adc .atHL
  | .adc_a_a => .alu .adc (.reg .a)
  | .adc_a_n n => .alu .adc (.imm n)
  -- SUB (42_alu8.md R175)
  | .sub_b => .alu .sub (.reg .b)
  | .sub_c => .alu .sub (.reg .c)
  | .sub_d => .alu .sub (.reg .d)
  | .sub_e => .alu .sub (.reg .e)
  | .sub_h => .alu .sub (.reg .h)
  | .sub_l => .alu .sub (.reg .l)
  | .sub_atHL => .alu .sub .atHL
  | .sub_a => .alu .sub (.reg .a)
  | .sub_n n => .alu .sub (.imm n)
  -- SBC (42_alu8.md R176)
  | .sbc_a_b => .alu .sbc (.reg .b)
  | .sbc_a_c => .alu .sbc (.reg .c)
  | .sbc_a_d => .alu .sbc (.reg .d)
  | .sbc_a_e => .alu .sbc (.reg .e)
  | .sbc_a_h => .alu .sbc (.reg .h)
  | .sbc_a_l => .alu .sbc (.reg .l)
  | .sbc_a_atHL => .alu .sbc .atHL
  | .sbc_a_a => .alu .sbc (.reg .a)
  | .sbc_a_n n => .alu .sbc (.imm n)
  -- AND (42_alu8.md R177)
  | .and_b => .alu .and (.reg .b)
  | .and_c => .alu .and (.reg .c)
  | .and_d => .alu .and (.reg .d)
  | .and_e => .alu .and (.reg .e)
  | .and_h => .alu .and (.reg .h)
  | .and_l => .alu .and (.reg .l)
  | .and_atHL => .alu .and .atHL
  | .and_a => .alu .and (.reg .a)
  | .and_n n => .alu .and (.imm n)
  -- XOR (42_alu8.md R178)
  | .xor_b => .alu .xor (.reg .b)
  | .xor_c => .alu .xor (.reg .c)
  | .xor_d => .alu .xor (.reg .d)
  | .xor_e => .alu .xor (.reg .e)
  | .xor_h => .alu .xor (.reg .h)
  | .xor_l => .alu .xor (.reg .l)
  | .xor_atHL => .alu .xor .atHL
  | .xor_a => .alu .xor (.reg .a)
  | .xor_n n => .alu .xor (.imm n)
  -- OR (42_alu8.md R179)
  | .or_b => .alu .or (.reg .b)
  | .or_c => .alu .or (.reg .c)
  | .or_d => .alu .or (.reg .d)
  | .or_e => .alu .or (.reg .e)
  | .or_h => .alu .or (.reg .h)
  | .or_l => .alu .or (.reg .l)
  | .or_atHL => .alu .or .atHL
  | .or_a => .alu .or (.reg .a)
  | .or_n n => .alu .or (.imm n)
  -- CP (42_alu8.md R180)
  | .cp_b => .alu .cp (.reg .b)
  | .cp_c => .alu .cp (.reg .c)
  | .cp_d => .alu .cp (.reg .d)
  | .cp_e => .alu .cp (.reg .e)
  | .cp_h => .alu .cp (.reg .h)
  | .cp_l => .alu .cp (.reg .l)
  | .cp_atHL => .alu .cp .atHL
  | .cp_a => .alu .cp (.reg .a)
  | .cp_n n => .alu .cp (.imm n)
  -- 8-bit increment and decrement (43_incdec.md R200 to R203)
  | .inc_b => .incR .b
  | .dec_b => .decR .b
  | .inc_c => .incR .c
  | .dec_c => .decR .c
  | .inc_d => .incR .d
  | .dec_d => .decR .d
  | .inc_e => .incR .e
  | .dec_e => .decR .e
  | .inc_h => .incR .h
  | .dec_h => .decR .h
  | .inc_l => .incR .l
  | .dec_l => .decR .l
  | .inc_atHL => .incHL
  | .dec_atHL => .decHL
  | .inc_a => .incR .a
  | .dec_a => .decR .a
  -- the absolute jump (44_jump.md R210)
  | .jp_nn nn => .jp nn
  | .unknown op => .unknown op

/-- The register code of 30_encoding.md R83. -/
def Reg8.code : Reg8 → BitVec 3
  | .b => 0 | .c => 1 | .d => 2 | .e => 3 | .h => 4 | .l => 5 | .a => 7

/-- The code of the memory operand `(HL)` (30_encoding.md R83). -/
def atHLCode : BitVec 3 := 6

/-- The code `pp` of 30_encoding.md R84. -/
def PairP.code : PairP → BitVec 2
  | .bc => 0 | .de => 1 | .hl => 2 | .sp => 3

/-- The code `qq` of 30_encoding.md R85. -/
def PairQ.code : PairQ → BitVec 2
  | .bc => 0 | .de => 1 | .hl => 2 | .af => 3

/-- The pointer code of 30_encoding.md R87. -/
def Pointer.code : Pointer → BitVec 2
  | .bc => 0 | .de => 1 | .hlInc => 2 | .hlDec => 3

/-- The operation code `o` of 30_encoding.md R86. -/
def AluOp.code : AluOp → BitVec 3
  | .add => 0 | .adc => 1 | .sub => 2 | .sbc => 3 | .and => 4 | .xor => 5 | .or => 6 | .cp => 7

/-- An opcode byte from its fields `x`, `y`, `z` (30_encoding.md R81). -/
def opXYZ (x : BitVec 2) (y z : BitVec 3) : Byte := x ++ y ++ z

/-- An opcode byte from its fields `x`, `p`, `q`, `z` (30_encoding.md R81). -/
def opXPQZ (x p : BitVec 2) (q : BitVec 1) (z : BitVec 3) : Byte := x ++ p ++ q ++ z

/-- The bytes of a form, from the patterns of 30_encoding.md R88; a 16-bit operand goes low byte first (R80, R82). -/
def Form.encode : Form → List Byte
  | .ldRR dst src => [opXYZ 1 dst.code src.code]
  | .ldRHL dst => [opXYZ 1 dst.code atHLCode]
  | .ldHLR src => [opXYZ 1 atHLCode src.code]
  | .ldRN dst n => [opXYZ 0 dst.code 6, n]
  | .ldHLN n => [opXYZ 0 atHLCode 6, n]
  | .ldAInd p => [opXPQZ 0 p.code 1 2]
  | .ldIndA p => [opXPQZ 0 p.code 0 2]
  | .ldNNA nn => [0xEA, lo nn, hi nn]
  | .ldANN nn => [0xFA, lo nn, hi nn]
  | .ldhNA n => [0xE0, n]
  | .ldhAN n => [0xF0, n]
  | .ldCA => [0xE2]
  | .ldAC => [0xF2]
  | .ldPairNN p nn => [opXPQZ 0 p.code 0 1, lo nn, hi nn]
  | .ldNNSP nn => [0x08, lo nn, hi nn]
  | .ldSPHL => [0xF9]
  | .push q => [opXPQZ 3 q.code 0 5]
  | .pop q => [opXPQZ 3 q.code 0 1]
  | .alu o (.reg r) => [opXYZ 2 o.code r.code]
  | .alu o .atHL => [opXYZ 2 o.code atHLCode]
  | .alu o (.imm n) => [opXYZ 3 o.code 6, n]
  | .incR r => [opXYZ 0 r.code 4]
  | .incHL => [opXYZ 0 atHLCode 4]
  | .decR r => [opXYZ 0 r.code 5]
  | .decHL => [opXYZ 0 atHLCode 5]
  | .jp nn => [0xC3, lo nn, hi nn]
  | .unknown op => [op]

/-- The bytes of an instruction, in address order. -/
def encode (i : Instr) : List Byte := i.form.encode

end Sys2Proof
end

