-- ==== Sys2Proof/Machine/Sequencer.lean ====
section
/-! DEFINITION. What a step does around a meaning (30_encoding.md R98 to R101): fetching the instruction's bytes through the bus, adding its
cost, and advancing the pc. -/

namespace Sys2Proof.Machine

namespace State

/-- The opcode byte at the pc (20_memory.md R55). -/
def opcode (s : State) : Byte := s.busRead s.pc

/-- `imm8` (00_scope.md R10): the byte after the opcode; the address wraps (30_encoding.md R82). -/
def imm8 (s : State) : Byte := s.busRead (s.pc + 1)

/-- `imm16` (00_scope.md R10): the first operand byte is the low byte (30_encoding.md R82). -/
def imm16 (s : State) : Word := join (s.busRead (s.pc + 2)) (s.busRead (s.pc + 1))

/-- The instruction at the pc: the dispatch ROM's entry, with the operand bytes its format has (30_encoding.md R89, R99). An opcode with no
entry reads no operand byte (60_exceptions.md R221). -/
def fetchInstr (s : State) : Instr :=
  match romEntry s.opcode with
  | .f1 i => i
  | .f2 make => make s.imm8
  | .f3 make => make s.imm16
  | .unknown => .unknown s.opcode

/-- The end of a step that completes (30_encoding.md R98, R100): the cost of `op` is added, and the pc advances past the instruction, but not
after `JP nn` (0xC3), whose handler has set it. -/
def retire (s : State) (op : Byte) : State :=
  (s.withCycles (s.cycles + s.params.cycleCost op)).withPc
    (if op = 0xC3 then s.pc else s.pc + BitVec.ofNat 16 (instrLen op))

/-- The end of a step: a faulting one adds nothing and leaves the pc (60_exceptions.md R221); either way a step was taken (log 6). -/
def finish (s : State) (op : Byte) : State :=
  (match s.fault with
    | none => s.retire op
    | some _ => s).withPhase .running

/-- The state with bytes stored at the pc and on, wrapping (for `withFetchWord`). -/
def placeAt (s : State) (a : Word) : List Byte → State
  | [] => s
  | b :: rest => (s.busWrite a b).placeAt (a + 1) rest

end State

end Sys2Proof.Machine
end

