-- ==== Sys2Proof/Machine/Step.lean ====
section
/-! DEFINITION. One step of the block (30_encoding.md R98). -/

namespace Sys2Proof.Machine

/-- One step: with the fault latch set there is none (30_encoding.md R102); else the instruction at the pc runs and the step is finished. -/
def step (s : State) : Host.Outcome State Fault Refusal :=
  match s.fault with
  | some _ => .fault .blockFaulted
  | none =>
    match exec s.fetchInstr s with
    | .next t => .next (t.finish s.opcode)
    | .fault f => .fault f
    | .refused r => .refused r

/-- The state with the instruction of a table word placed where the next step fetches: three bytes at the pc (log 12). The fault latch, which
nothing clears (10_state.md R34), stays as it is. -/
def State.withFetchWord (s : State) (nbits w : Nat) : State := s.placeAt s.pc (tableBytes nbits w)

end Sys2Proof.Machine
end

