-- ==== Sys2Proof/Machine/HostOps.lean ====
section
/-! DEFINITION. The host operation `load_cartridge` (20_memory.md R71 to R74) and the block's outputs (00_scope.md R4). -/

namespace Sys2Proof.Machine

/-- What the caller of `load_cartridge` gets. -/
inductive LoadResult where
  /-- the file was loaded (20_memory.md R71) -/
  | success (s : State)
  /-- the negative result: the file could not be opened; the state is as it was (20_memory.md R73) -/
  | loadError (s : State)
  /-- the load has no meaning here (20_memory.md R74) -/
  | refused (r : Refusal)
deriving DecidableEq, Repr

namespace State

/-- The cartridge buffer's bytes after a load: zero-filled, then the image's first 0x200000 bytes (20_memory.md R71). -/
def bufferOf (image : List Byte) : Memory := Memory.ofBytes 0 (image.take cartridgeCapacity)

/-- The load of an image (20_memory.md R71, R72): the buffer, the copy at address 0 of at most 0x8000 bytes, and the header latches. -/
def loadImage (s : State) (image : List Byte) : State :=
  let buffer := bufferOf image
  { s with
    cartBuffer := buffer
    mem := Memory.overlayLow ((image.take cartridgeCapacity).take romWindow) s.mem
    cartType := Memory.read buffer 0x0147
    ramSizeCode := Memory.read buffer 0x0148
    romSizeCode := Memory.read buffer 0x0149
    phase := .loaded }

/-- `load_cartridge` (20_memory.md R71 to R74): `none` is a file that cannot be opened. Refused after a load and after a step; a call that
fails changes no state (R73), so it does not count as the load (log 6). -/
def loadCartridge (s : State) (file : Option (List Byte)) : LoadResult :=
  match s.phase with
  | .running => .refused .loadAfterStep
  | .loaded => .refused .secondLoad
  | .fresh =>
    match file with
    | none => .loadError s
    | some image => .success (s.loadImage image)

end State

end Sys2Proof.Machine
end

