-- ==== Sys2Proof/Safety.lean ====
section
/-! DEFINITION. The invariant of the block, and what counts as a safe run. -/

namespace Sys2Proof.Machine

/-- The fault record of `s` if its latch is set: the current registers, and the unknown opcode at the pc (60_exceptions.md R222). Nothing
changes after a fault, so the record stays true of the state. -/
def State.faultPrecise (s : State) : Prop :=
  ∀ r, s.fault = some r → r = s.faultRecord s.opcode ∧ s.opcode ∈ unknownOpcodes ∧ s.phase = .running

/-- What holds of every state of a run. -/
structure State.Inv (s : State) : Prop where
  /-- memory is in its canonical form -/
  mem_wf : Memory.wf s.mem = true
  /-- so is the cartridge buffer -/
  buffer_wf : Memory.wfFrom cartridgeCapacity 0 s.cartBuffer = true
  /-- bits 3..0 of F are zero (10_state.md R27) -/
  flags_low_zero : s.getF &&& 0x0F = 0
  /-- the header latches are the buffer's bytes at their offsets (20_memory.md R72, 10_state.md R39) -/
  latches : s.cartType = Memory.read s.cartBuffer 0x0147 ∧ s.ramSizeCode = Memory.read s.cartBuffer 0x0148 ∧
    s.romSizeCode = Memory.read s.cartBuffer 0x0149
  /-- before a load the buffer is all zero (10_state.md R39) -/
  fresh_buffer : s.phase = .fresh → s.cartBuffer = []
  /-- a set fault latch is precise (60_exceptions.md R223) -/
  fault_precise : s.faultPrecise

/-- A state the block can still step from (60_exceptions.md R233): the faulted state counts as a failure (30_encoding.md R102). -/
def State.live (s : State) : Prop := s.fault = none

/-- A safe run of `k` steps: every step is taken and none faults. -/
def State.safeFor : Nat → State → Prop
  | 0, s => s.live
  | k + 1, s => s.live ∧ ∃ t, step s = .next t ∧ t.safeFor k

end Sys2Proof.Machine
end

