-- ==== Sys2Proof/Certificates/Slice0/Obligations.lean ====
section
/-! DEFINITION. The statements about the model, for the provers, and the few words they are said in. A statement about an instruction
holds for every instruction of its form (`Instr.form`, Decode.lean) and for every state, so for every value of the parameters. Where
the spec marks an encoding or an effect as its own decision, or as general knowledge, the docstring says so. -/

namespace Sys2Proof.Claims

open Sys2Proof.Machine

/-! ## The words the statements are said in -/

/-- The instruction has these bytes, and no others, and its opcode costs `cost` under the default parameters. -/
def Encodes (i : Instr) (bytes : List Byte) (cost : Nat) : Prop :=
  decode bytes = .ok (i, []) ∧ encode i = bytes ∧ ∀ op, bytes.head? = some op → Params.default.cycleCost op = cost

/-- From `s` to `t` nothing but the four pairs may have changed. -/
def PairsOnly (s t : State) : Prop := t = { s with af := t.af, bc := t.bc, de := t.de, hl := t.hl }

/-- From `s` to `t` the register `r` takes the value `v`, and nothing else changes: no other register, no flag, no memory byte, no
counter, latch or pointer. -/
def SetsReg (s t : State) (r : Reg8) (v : Byte) : Prop :=
  PairsOnly s t ∧ t.getF = s.getF ∧ ∀ r', t.getReg8 r' = if r' = r then v else s.getReg8 r'

/-- From `s` to `t` the byte at `a` takes the value `v`, and nothing else changes: no other byte of memory, no register. -/
def StoresByte (s t : State) (a : Word) (v : Byte) : Prop :=
  t = { s with mem := t.mem } ∧ ∀ b, t.busRead b = if b = a then v else s.busRead b

/-- The word in memory at `a`: the low byte at `a`, the high byte at the next address, which wraps (20_memory.md R56, R59). -/
def wordAt (s : State) (a : Word) : Word := s.busRead (a + 1) ++ s.busRead a

/-- The high byte of a word. -/
def highByte (w : Word) : Byte := (w >>> 8).setWidth 8

/-- The low byte of a word. -/
def lowByte (w : Word) : Byte := w.setWidth 8

/-- The address of an indirect accumulator operand (30_encoding.md R87). -/
def pointer (s : State) : Pointer → Word
  | .bc => s.bc
  | .de => s.de
  | .hlInc => s.hl
  | .hlDec => s.hl

/-- HL after the access (40_load8.md R130 to R133). -/
def hlAfter (s : State) : Pointer → Word
  | .bc => s.hl
  | .de => s.hl
  | .hlInc => s.hl + 1
  | .hlDec => s.hl - 1

/-- The operand of an ALU instruction (42_alu8.md R171). -/
def operand (s : State) : AluSrc → Byte
  | .reg r => s.getReg8 r
  | .atHL => s.busRead s.hl
  | .imm n => n

/-- The bytes of an ALU instruction of operation code `o` (30_encoding.md R86, R88; 42_alu8.md R171). -/
def aluBytes (o : BitVec 3) : AluSrc → List Byte
  | .reg r => [0b10#2 ++ o ++ r.code]
  | .atHL => [0b10#2 ++ o ++ 0b110#3]
  | .imm n => [0b11#2 ++ o ++ 0b110#3, n]

/-- The default cost of an ALU instruction (70_reset_and_hazards.md R262). -/
def aluCost : AluSrc → Nat
  | .reg _ => 4
  | .atHL => 8
  | .imm _ => 8

/-- The flag a subtraction writes for a borrow (42_alu8.md R172). -/
def borrowFlag (s : State) (borrow : Bool) : Bool :=
  if s.params.subBorrowPolarity = .borrow then borrow else !borrow

/-- From `s` to `t` an ALU instruction leaves A = `a` and the four flags, with bits 3..0 of F zero, and nothing else changes. -/
def SetsAccumulator (s t : State) (a : Byte) (f : Flags) : Prop :=
  t.getA = a ∧ t.flags = f ∧ t.getF &&& 0x0F = 0 ∧ t = { s with af := t.af }

/-- The fault record 60_exceptions.md R222 gives for opcode `op`. -/
def record (s : State) (op : Byte) : FaultRecord :=
  { cause := .unknownOpcode, opcode := op, pc := s.pc, sp := s.sp, af := s.af, bc := s.bc, de := s.de, hl := s.hl }

/-- The addresses a form stores to, by the table of 20_memory.md R54. -/
def storeAddrs (s : State) : Form → List Word
  | .ldHLR _ => [s.hl]
  | .ldHLN _ => [s.hl]
  | .ldIndA p => [pointer s p]
  | .ldNNA nn => [nn]
  | .ldhNA n => [0xFF00 + n.setWidth 16]
  | .ldCA => [0xFF00 + s.getC.setWidth 16]
  | .ldNNSP nn => [nn, nn + 1]
  | .push _ => [s.sp - 1, s.sp - 2]
  | .incHL => [s.hl]
  | .decHL => [s.hl]
  | _ => []

/-- The bytes a form stores, with their addresses, by 20_memory.md R54 and the rules of its row: the pseudocode of 40_load8.md R123 to
R138, 41_load16_stack.md R151 and R153, 43_incdec.md R201 and R203. -/
def stores (s : State) : Form → List (Word × Byte)
  | .ldHLR r => [(s.hl, s.getReg8 r)]
  | .ldHLN n => [(s.hl, n)]
  | .ldIndA p => [(pointer s p, s.getA)]
  | .ldNNA nn => [(nn, s.getA)]
  | .ldhNA n => [(0xFF#8 ++ n, s.getA)]
  | .ldCA => [(0xFF#8 ++ s.getC, s.getA)]
  | .ldNNSP nn => [(nn, lowByte s.sp), (nn + 1, highByte s.sp)]
  | .push q => [(s.sp - 1, highByte (s.getPairQ q)), (s.sp - 2, lowByte (s.getPairQ q))]
  | .incHL => [(s.hl, s.busRead s.hl + 1)]
  | .decHL => [(s.hl, s.busRead s.hl - 1)]
  | _ => []

/-- The byte at `a` once a form has run: the byte it stores there, else the byte before. -/
def byteAfter (s : State) (f : Form) (a : Word) : Byte := ((stores s f).lookup a).getD (s.busRead a)

/-- The forms that write flags, by the table of 10_state.md R28. -/
def writesFlags : Form → Bool
  | .alu _ _ => true
  | .incR _ => true
  | .incHL => true
  | .decR _ => true
  | .decHL => true
  | .pop .af => true
  | _ => false

/-- The forms that write SP (10_state.md R31). -/
def writesSP : Form → Bool
  | .ldPairNN .sp _ => true
  | .ldSPHL => true
  | .push _ => true
  | .pop _ => true
  | _ => false

/-- The flag bits that depend on `SubBorrowPolarity`: H and C of SUB, SBC and CP, H of DEC (42_alu8.md R172, 43_incdec.md R202). -/
def polarityMask : Form → Word
  | .alu .sub _ => 0x0030
  | .alu .sbc _ => 0x0030
  | .alu .cp _ => 0x0030
  | .decR _ => 0x0020
  | .decHL => 0x0020
  | _ => 0x0000

/-- The state with the parameter `SubBorrowPolarity` set. -/
def withPolarity (p : BorrowPolarity) (s : State) : State :=
  { s with params := { s.params with subBorrowPolarity := p } }

/-- The patterns of the handler set (30_encoding.md R88), on the fields of R81. -/
def handlerPattern (op : Byte) : Bool :=
  let x := op.extractLsb' 6 2
  let z := op.extractLsb' 0 3
  let q := op.extractLsb' 3 1
  (x == 1 && op != 0x76) || (x == 0 && z == 6) || (x == 0 && z == 2) || op == 0xEA || op == 0xFA ||
  op == 0xE0 || op == 0xF0 || op == 0xE2 || op == 0xF2 || (x == 0 && z == 1 && q == 0) || op == 0xF9 || op == 0x08 ||
  (x == 3 && z == 5 && q == 0) || (x == 3 && z == 1 && q == 0) || x == 2 || (x == 3 && z == 6) ||
  (x == 0 && z == 4) || (x == 0 && z == 5) || op == 0xC3

/-- The state as an instruction may see it: without the cycle counter, the cartridge buffer, the header latches and the host's phase. -/
def visible (s : State) : State :=
  { s with cycles := 0, cartBuffer := [], cartType := 0, ramSizeCode := 0, romSizeCode := 0, phase := .fresh }

/-- The sum of the costs of the next `k` steps. -/
def costOfSteps : Nat → State → Nat
  | 0, _ => 0
  | k + 1, s =>
    match step s with
    | .next t => s.params.cycleCost (s.busRead s.pc) + costOfSteps k t
    | .fault _ => 0
    | .refused _ => 0

/-- `PUSH qq`. -/
def pushOf : PairQ → Instr
  | .bc => .push_bc
  | .de => .push_de
  | .hl => .push_hl
  | .af => .push_af

/-- `POP qq`. -/
def popOf : PairQ → Instr
  | .bc => .pop_bc
  | .de => .pop_de
  | .hl => .pop_hl
  | .af => .pop_af

/-- The meanings of a list of instructions, one after another. -/
def execAll : List Instr → State → Option State
  | [], s => some s
  | i :: rest, s =>
    match exec i s with
    | .next t => execAll rest t
    | .fault _ => none
    | .refused _ => none

/-- One push or pop. -/
inductive StackOp where
  | push (q : PairQ)
  | pop (q : PairQ)
deriving DecidableEq, Repr

/-- The instruction of a push or a pop. -/
def StackOp.instr : StackOp → Instr
  | .push q => pushOf q
  | .pop q => popOf q

/-- What POP leaves in the pair for the word `w`: for AF the low nibble is cleared (41_load16_stack.md R155). -/
def popped (q : PairQ) (w : Word) : Word := if q = .af then w &&& 0xFFF0 else w

/-- The stack of 16-bit words of 41_load16_stack.md R156, apart from memory: the pairs and the words on the stack, the last pushed first,
after a list of pushes and pops. `none` where a pop finds no word, or where a push finds all 65536 bytes of memory in use. -/
def stackRun : List StackOp → (PairQ → Word) → List Word → Option ((PairQ → Word) × List Word)
  | [], pairs, ws => some (pairs, ws)
  | .push q :: rest, pairs, ws => if ws.length < 0x8000 then stackRun rest pairs (pairs q :: ws) else none
  | .pop _ :: _, _, [] => none
  | .pop q :: rest, pairs, w :: ws => stackRun rest (fun q' => if q' = q then popped q w else pairs q') ws

end Sys2Proof.Claims

open Sys2Proof Sys2Proof.Machine Sys2Proof.Claims

/-! ## Reset and the state -/

/-- 10_state.md R39 with R252 and R253 for the memory. Under every value of the parameters; `phase` and `params` are the model's own
fields (logs 1 and 6). -/
def Obligations.ResetState : Prop :=
  ∀ (p : Params) (seed : List (Word × Byte)),
    let s := State.resetWith p seed
    (s.getA = 0x01 ∧ s.getF = 0xB0 ∧ s.af = 0x01B0 ∧ s.flags = { z := true, n := false, h := true, c := true }) ∧
    (s.getB = 0x00 ∧ s.getC = 0x13 ∧ s.bc = 0x0013) ∧ (s.getD = 0x00 ∧ s.getE = 0xD8 ∧ s.de = 0x00D8) ∧
    (s.getH = 0x01 ∧ s.getL = 0x4D ∧ s.hl = 0x014D) ∧ s.sp = 0xFFFE ∧ s.pc = 0x0100 ∧ s.cycles = 0 ∧ s.fault = none ∧
    (s.cartType = 0x00 ∧ s.ramSizeCode = 0x00 ∧ s.romSizeCode = 0x00) ∧
    (∀ k, k < 0x200000 → Memory.read s.cartBuffer k = 0x00) ∧ s.phase = .fresh ∧ s.params = p

/-- 70_reset_and_hazards.md R252, and R253's seeding under every value of `IoSeed` with one entry an address. That an address below
0xFF00, which R253 does not allow in a seed, is seeded like any other is the model's choice (log 3), and so is that of two entries for one
address the later stays. -/
def Obligations.ResetMemoryIsZeroButForTheSeed : Prop :=
  ∀ (p : Params) (seed : List (Word × Byte)) (a : Word),
    ((∀ e ∈ seed, e.1 ≠ a) → (State.resetWith p seed).busRead a = 0x00) ∧
    ((seed.map Prod.fst).Nodup → ∀ v, (a, v) ∈ seed → (State.resetWith p seed).busRead a = v)

/-- The invariant holds at reset, under every value of the parameters and of `IoSeed`. -/
def Obligations.ResetMeetsTheInvariant : Prop :=
  ∀ (p : Params) (seed : List (Word × Byte)), (State.resetWith p seed).Inv

/-- Every step keeps the invariant: memory and buffer canonical, bits 3..0 of F zero (10_state.md R27), the header latches those of the
buffer, and a set fault latch precise (60_exceptions.md R222, R223). -/
def Obligations.StepKeepsTheInvariant : Prop :=
  ∀ s t : State, s.Inv → step s = .next t → t.Inv

/-- So does a cartridge load. -/
def Obligations.LoadKeepsTheInvariant : Prop :=
  ∀ (s t : State) (file : Option (List Byte)), s.Inv → s.loadCartridge file = .success t → t.Inv

/-! ## The step -/

/-- 30_encoding.md R98 to R100: the step runs the instruction the bytes at the pc decode to, and then, unless it took the fault, adds the
opcode's cost and advances the pc by its length, but not for `JP nn`. `phase` is the model's own mark that a step was taken (log 6). -/
def Obligations.StepRunsTheDecodedInstruction : Prop :=
  ∀ (s t : State) (i : Instr) (rest : List Byte),
    s.fault = none → decode [s.busRead s.pc, s.busRead (s.pc + 1), s.busRead (s.pc + 2)] = .ok (i, rest) →
    exec i s = .next t →
    (t.fault = none →
      step s = .next { t with
        cycles := t.cycles + t.params.cycleCost (s.busRead s.pc)
        pc := if s.busRead s.pc = 0xC3 then t.pc else t.pc + BitVec.ofNat 16 (instrLen (s.busRead s.pc))
        phase := .running }) ∧
    (t.fault ≠ none → step s = .next { t with phase := .running })

/-- 30_encoding.md R100 and 70_reset_and_hazards.md R261: what a completed step does to the pc and to `cycles`; that `JP nn` costs 16 under
every value of the parameter (R262). -/
def Obligations.StepAdvancesPcAndCycles : Prop :=
  ∀ s : State, s.fault = none → s.busRead s.pc ∉ unknownOpcodes →
    ∃ t, step s = .next t ∧ t.fault = none ∧
      t.pc = (if s.busRead s.pc = 0xC3 then wordAt s (s.pc + 1) else s.pc + BitVec.ofNat 16 (instrLen (s.busRead s.pc))) ∧
      t.cycles = s.cycles + s.params.cycleCost (s.busRead s.pc) ∧
      (s.busRead s.pc = 0xC3 → t.cycles = s.cycles + 16)

/-- 60_exceptions.md R221 and R222: an unknown opcode writes the fault latch and nothing else. `phase` is the model's own (log 6). -/
def Obligations.UnknownOpcodeStepWritesOnlyTheLatch : Prop :=
  ∀ s : State, s.fault = none → s.busRead s.pc ∈ unknownOpcodes →
    step s = .next { s with fault := some (record s (s.busRead s.pc)), phase := .running }

/-- 30_encoding.md R102: once the latch is set there is no step. -/
def Obligations.FaultedBlockHasNoStep : Prop :=
  ∀ (s : State) (r : FaultRecord), s.fault = some r → step s = .fault .blockFaulted ∧ ∀ t, step s ≠ .next t

/-- 60_exceptions.md R220, R225 and 30_encoding.md R94: from a state that has not faulted every step answers, and it faults exactly when
the opcode has no handler. -/
def Obligations.LiveStepAnswersAndFaultsOnlyOnUnknownOpcodes : Prop :=
  ∀ s : State, s.fault = none →
    ∃ t, step s = .next t ∧ (t.fault ≠ none ↔ s.busRead s.pc ∈ unknownOpcodes) ∧
      (∀ r, t.fault = some r → r.cause = .unknownOpcode ∧ r.opcode = s.busRead s.pc ∧ r.pc = s.pc)

/-- 70_reset_and_hazards.md R255: with no load the first step meets 0x00 at 0x0100 and faults, whatever the parameters, when the seed lies in
the high page (R253). -/
def Obligations.FirstStepWithoutALoadFaults : Prop :=
  ∀ (p : Params) (seed : List (Word × Byte)), (∀ e ∈ seed, 0xFF00 ≤ e.1.toNat) →
    ∃ t, step (State.resetWith p seed) = .next t ∧ t.cycles = 0 ∧
      t.fault = some { cause := .unknownOpcode, opcode := 0x00, pc := 0x0100, sp := 0xFFFE,
                       af := 0x01B0, bc := 0x0013, de := 0x00D8, hl := 0x014D }

/-- 10_state.md R33, R35 and R36: no instruction writes the cartridge buffer, the header latches or the parameters, and none reads them
(but the parameters) or the cycle counter: two states alike in all else step alike in all else. -/
def Obligations.NoInstructionSeesCyclesOrCartridge : Prop :=
  ∀ s s' t : State, visible s = visible s' → step s = .next t →
    (t.cartBuffer = s.cartBuffer ∧ t.cartType = s.cartType ∧ t.ramSizeCode = s.ramSizeCode ∧
      t.romSizeCode = s.romSizeCode ∧ t.params = s.params) ∧
    ∃ t', step s' = .next t' ∧ visible t = visible t'

/-- 70_reset_and_hazards.md R263: after a run of `k` steps that did not fault, `cycles` has grown by the sum of their costs; under the default
costs that is at least 4 a step. -/
def Obligations.CyclesOfARunAreTheSumOfItsCosts : Prop :=
  ∀ (k : Nat) (s t : State), Sys2Proof.core.run k s = .next t → t.fault = none →
    t.cycles = s.cycles + costOfSteps k s ∧ (s.params = .default → s.cycles + 4 * k ≤ t.cycles)

/-! ## The bus -/

/-- 20_memory.md R53, with R51 and R52: a write is read back at its address and changes no other byte and no register; a word write changes its
two bytes, the second at the next address, which wraps (R59). -/
def Obligations.BusReadAfterWrite : Prop :=
  ∀ (s : State) (a b : Word) (v : Byte) (w : Word),
    StoresByte s (s.busWrite a v) a v ∧
    (s.busWrite16 a w = { s with mem := (s.busWrite16 a w).mem } ∧
      (s.busWrite16 a w).busRead b = if b = a + 1 then highByte w else if b = a then lowByte w else s.busRead b)

/-- 20_memory.md R69, a derived rule of the spec: the stores of any instruction are seen when the next one is fetched, in its opcode byte and
in its operand bytes alike. After the step memory is the bytes the instruction stored and the old bytes elsewhere, and the next step runs
the instruction `j` those bytes decode to at the new pc. The instruction's own operands are the bytes before its stores. `phase` is the
model's own (log 6). -/
def Obligations.StoreIsSeenByTheNextFetch : Prop :=
  ∀ (s : State) (i : Instr) (rest : List Byte), s.fault = none → s.busRead s.pc ∉ unknownOpcodes →
    decode [s.busRead s.pc, s.busRead (s.pc + 1), s.busRead (s.pc + 2)] = .ok (i, rest) →
    ∃ t, step s = .next t ∧ t.fault = none ∧ (∀ a, t.busRead a = byteAfter s i.form a) ∧
      ∀ (j : Instr) (rest' : List Byte),
        decode [byteAfter s i.form t.pc, byteAfter s i.form (t.pc + 1), byteAfter s i.form (t.pc + 2)] = .ok (j, rest') →
        ∃ v, exec j t = .next v ∧
          (v.fault = none → step t = .next { v with
            cycles := v.cycles + v.params.cycleCost (byteAfter s i.form t.pc)
            pc := if byteAfter s i.form t.pc = 0xC3 then v.pc else v.pc + BitVec.ofNat 16 (instrLen (byteAfter s i.form t.pc)) }) ∧
          (v.fault ≠ none → step t = .next v)

/-! ## 8-bit loads and stores -/

/-- 40_load8.md R121 (encoding: general knowledge of the spec). -/
def Obligations.LdRegRegCopies : Prop :=
  ∀ (i : Instr) (dst src : Reg8), i.form = .ldRR dst src →
    Encodes i [0b01#2 ++ dst.code ++ src.code] 4 ∧
    ∀ s, ∃ t, exec i s = .next t ∧ SetsReg s t dst (s.getReg8 src)

/-- 40_load8.md R122 (encoding: general knowledge of the spec): the address is HL before the write, also for H and L. -/
def Obligations.LdRegFromHLReads : Prop :=
  ∀ (i : Instr) (dst : Reg8), i.form = .ldRHL dst →
    Encodes i [0b01#2 ++ dst.code ++ 0b110#3] 8 ∧
    ∀ s, ∃ t, exec i s = .next t ∧ SetsReg s t dst (s.busRead s.hl)

/-- 40_load8.md R123 (encoding: general knowledge of the spec). -/
def Obligations.LdHLFromRegStores : Prop :=
  ∀ (i : Instr) (src : Reg8), i.form = .ldHLR src →
    Encodes i [0b01110#5 ++ src.code] 8 ∧
    ∀ s, ∃ t, exec i s = .next t ∧ StoresByte s t s.hl (s.getReg8 src)

/-- 40_load8.md R124 (encoding: general knowledge of the spec). -/
def Obligations.LdRegImmLoads : Prop :=
  ∀ (i : Instr) (dst : Reg8) (n : Byte), i.form = .ldRN dst n →
    Encodes i [0b00#2 ++ dst.code ++ 0b110#3, n] 8 ∧
    ∀ s, ∃ t, exec i s = .next t ∧ SetsReg s t dst n

/-- 40_load8.md R125 (encoding: general knowledge of the spec). -/
def Obligations.LdHLImmStores : Prop :=
  ∀ (i : Instr) (n : Byte), i.form = .ldHLN n →
    Encodes i [0b00110110, n] 12 ∧
    ∀ s, ∃ t, exec i s = .next t ∧ StoresByte s t s.hl n

/-- 40_load8.md R126, R127, R131 and R133. The meaning of (HL+) and (HL-) is the spec's decision D17. -/
def Obligations.LdAIndirectLoads : Prop :=
  ∀ (i : Instr) (p : Pointer), i.form = .ldAInd p →
    Encodes i [0b00#2 ++ p.code ++ 0b1010#4] 8 ∧
    ∀ s, ∃ t, exec i s = .next t ∧ t.getA = s.busRead (pointer s p) ∧ t.getF = s.getF ∧ t.hl = hlAfter s p ∧
      t = { s with af := t.af, hl := t.hl }

/-- 40_load8.md R128, R129, R130 and R132. The meaning of (HL+) and (HL-) is the spec's decision D17. -/
def Obligations.LdIndirectAStores : Prop :=
  ∀ (i : Instr) (p : Pointer), i.form = .ldIndA p →
    Encodes i [0b00#2 ++ p.code ++ 0b0010#4] 8 ∧
    ∀ s, ∃ t, exec i s = .next t ∧ t.hl = hlAfter s p ∧ t = { s with hl := t.hl, mem := t.mem } ∧
      ∀ b, t.busRead b = if b = pointer s p then s.getA else s.busRead b

/-- 40_load8.md R134 and R135 (encodings: general knowledge of the spec). The first operand byte is the low byte (30_encoding.md R82). -/
def Obligations.LdAbsoluteMovesA : Prop :=
  ∀ (i : Instr) (nn : Word),
    (i.form = .ldNNA nn → Encodes i [0xEA, lowByte nn, highByte nn] 16 ∧
      ∀ s, ∃ t, exec i s = .next t ∧ StoresByte s t nn s.getA) ∧
    (i.form = .ldANN nn → Encodes i [0xFA, lowByte nn, highByte nn] 16 ∧
      ∀ s, ∃ t, exec i s = .next t ∧ SetsReg s t .a (s.busRead nn))

/-- 40_load8.md R136 to R139. The high page 0xFF00 is the spec's decision D17. -/
def Obligations.HighPageMovesA : Prop :=
  ∀ (i : Instr) (n : Byte),
    (i.form = .ldhNA n → Encodes i [0xE0, n] 12 ∧
      ∀ s, ∃ t, exec i s = .next t ∧ StoresByte s t (0xFF#8 ++ n) s.getA) ∧
    (i.form = .ldhAN n → Encodes i [0xF0, n] 12 ∧
      ∀ s, ∃ t, exec i s = .next t ∧ SetsReg s t .a (s.busRead (0xFF#8 ++ n))) ∧
    (i.form = .ldCA → Encodes i [0xE2] 8 ∧
      ∀ s, ∃ t, exec i s = .next t ∧ StoresByte s t (0xFF#8 ++ s.getC) s.getA) ∧
    (i.form = .ldAC → Encodes i [0xF2] 8 ∧
      ∀ s, ∃ t, exec i s = .next t ∧ SetsReg s t .a (s.busRead (0xFF#8 ++ s.getC)))

/-! ## 16-bit loads and the stack -/

/-- 41_load16_stack.md R150 (encoding: general knowledge of the spec). -/
def Obligations.LdPairImmLoads : Prop :=
  ∀ (i : Instr) (p : PairP) (nn : Word), i.form = .ldPairNN p nn →
    Encodes i [0b00#2 ++ p.code ++ 0b0001#4, lowByte nn, highByte nn] 12 ∧
    ∀ s, ∃ t, exec i s = .next t ∧ (∀ p', t.getPairP p' = if p' = p then nn else s.getPairP p') ∧
      t = { s with bc := t.bc, de := t.de, hl := t.hl, sp := t.sp }

/-- 41_load16_stack.md R151. The byte order is the spec's decision D13, the wrap of the second address D14. -/
def Obligations.LdAbsoluteSPStores : Prop :=
  ∀ (i : Instr) (nn : Word), i.form = .ldNNSP nn →
    Encodes i [0x08, lowByte nn, highByte nn] 20 ∧
    ∀ s, ∃ t, exec i s = .next t ∧ t = { s with mem := t.mem } ∧
      ∀ b, t.busRead b = if b = nn then lowByte s.sp else if b = nn + 1 then highByte s.sp else s.busRead b

/-- 41_load16_stack.md R152 (encoding: general knowledge of the spec). -/
def Obligations.LdSPFromHL : Prop :=
  ∀ i : Instr, i.form = .ldSPHL →
    Encodes i [0xF9] 8 ∧ ∀ s, exec i s = .next { s with sp := s.hl }

/-- 41_load16_stack.md R153 (encoding: general knowledge of the spec). -/
def Obligations.PushStoresThePairBelowSP : Prop :=
  ∀ (i : Instr) (q : PairQ), i.form = .push q →
    Encodes i [0b11#2 ++ q.code ++ 0b0101#4] 16 ∧
    ∀ s, ∃ t, exec i s = .next t ∧ t.sp = s.sp - 2 ∧ t = { s with sp := t.sp, mem := t.mem } ∧
      (∀ b, t.busRead b = if b = s.sp - 1 then highByte (s.getPairQ q)
        else if b = s.sp - 2 then lowByte (s.getPairQ q) else s.busRead b) ∧
      (q = .af → s.getF &&& 0x0F = 0 → t.busRead (s.sp - 2) &&& 0x0F = 0)

/-- 41_load16_stack.md R154 (encoding: general knowledge of the spec). -/
def Obligations.PopLoadsThePairAtSP : Prop :=
  ∀ (i : Instr) (q : PairQ), i.form = .pop q → q ≠ .af →
    Encodes i [0b11#2 ++ q.code ++ 0b0001#4] 12 ∧
    ∀ s, ∃ t, exec i s = .next t ∧ t.sp = s.sp + 2 ∧
      (∀ q', t.getPairQ q' = if q' = q then wordAt s s.sp else s.getPairQ q') ∧
      t = { s with bc := t.bc, de := t.de, hl := t.hl, sp := t.sp }

/-- 41_load16_stack.md R155. The mask is the spec's decision D18. -/
def Obligations.PopAFMasksTheFlags : Prop :=
  ∀ i : Instr, i.form = .pop .af →
    Encodes i [0b11110001] 12 ∧
    ∀ s, ∃ t, exec i s = .next t ∧ t.sp = s.sp + 2 ∧ t.getA = s.busRead (s.sp + 1) ∧ t.getF = s.busRead s.sp &&& 0xF0 ∧
      t.flags = { z := (s.busRead s.sp).getLsbD 7, n := (s.busRead s.sp).getLsbD 6,
                  h := (s.busRead s.sp).getLsbD 5, c := (s.busRead s.sp).getLsbD 4 } ∧
      t = { s with af := t.af, sp := t.sp }

/-- 41_load16_stack.md R156, its first sentence: push then pop of one pair restores the pair and SP, and all else but the two stack bytes. For
AF the premise is that bits 3..0 of F are zero, which every run keeps (10_state.md R27; `StepKeepsTheInvariant`). -/
def Obligations.PushThenPopRestores : Prop :=
  ∀ (q : PairQ) (s : State), (q = .af → s.getF &&& 0x0F = 0) →
    ∃ t, execAll [pushOf q, popOf q] s = some t ∧ t = { s with mem := t.mem } ∧
      ∀ b, b ≠ s.sp - 1 → b ≠ s.sp - 2 → t.busRead b = s.busRead b

/-- 41_load16_stack.md R156, its second sentence, a derived rule of the spec: any sequence of pushes and pops, of any pairs and in any order,
behaves as a last in, first out stack of 16-bit words growing downward, as long as no pop finds it empty and it fits in memory. The pairs
end as the stack machine leaves them, SP lies below its first value by the bytes in use, and the words left lie from SP up, the last
pushed first. The mask of POP AF is the spec's decision D18. -/
def Obligations.StackIsLastInFirstOut : Prop :=
  ∀ (ops : List StackOp) (s : State) (pairs : PairQ → Word) (ws : List Word), stackRun ops s.getPairQ [] = some (pairs, ws) →
    ∃ t, execAll (ops.map StackOp.instr) s = some t ∧ (∀ q, t.getPairQ q = pairs q) ∧
      t.sp = s.sp - BitVec.ofNat 16 (2 * ws.length) ∧
      (∀ (k : Nat) (w : Word), ws[k]? = some w → wordAt t (t.sp + BitVec.ofNat 16 (2 * k)) = w) ∧
      t = { s with af := t.af, bc := t.bc, de := t.de, hl := t.hl, sp := t.sp, mem := t.mem }

/-! ## The ALU -/

/-- 42_alu8.md R173. -/
def Obligations.AddWritesSumAndFlags : Prop :=
  ∀ (i : Instr) (x : AluSrc), i.form = .alu .add x →
    Encodes i (aluBytes 0b000 x) (aluCost x) ∧
    ∀ s, ∃ t, exec i s = .next t ∧
      SetsAccumulator s t (s.getA + operand s x)
        { z := s.getA + operand s x == 0, n := false
          h := decide (s.getA.toNat % 16 + (operand s x).toNat % 16 > 0x0F)
          c := decide (s.getA.toNat + (operand s x).toNat > 0xFF) }

/-- 42_alu8.md R174. That the carry joins both comparisons at full precision is the spec's decision D6 (R182). -/
def Obligations.AdcWritesSumAndFlags : Prop :=
  ∀ (i : Instr) (x : AluSrc), i.form = .alu .adc x →
    Encodes i (aluBytes 0b001 x) (aluCost x) ∧
    ∀ s, ∃ t, exec i s = .next t ∧
      SetsAccumulator s t (BitVec.ofNat 8 (s.getA.toNat + (operand s x).toNat + s.flags.c.toNat))
        { z := decide ((s.getA.toNat + (operand s x).toNat + s.flags.c.toNat) % 256 = 0), n := false
          h := decide (s.getA.toNat % 16 + (operand s x).toNat % 16 + s.flags.c.toNat > 0x0F)
          c := decide (s.getA.toNat + (operand s x).toNat + s.flags.c.toNat > 0xFF) }

/-- 42_alu8.md R175, under every value of `SubBorrowPolarity` (R172, decision D5). -/
def Obligations.SubWritesDifferenceAndFlags : Prop :=
  ∀ (i : Instr) (x : AluSrc), i.form = .alu .sub x →
    Encodes i (aluBytes 0b010 x) (aluCost x) ∧
    ∀ s, ∃ t, exec i s = .next t ∧
      SetsAccumulator s t (s.getA - operand s x)
        { z := decide (s.getA = operand s x), n := true
          h := borrowFlag s (decide (s.getA.toNat % 16 < (operand s x).toNat % 16))
          c := borrowFlag s (decide (s.getA.toNat < (operand s x).toNat)) }

/-- 42_alu8.md R176, under every value of `SubBorrowPolarity` (R172, decision D5); the carry as in decision D6. -/
def Obligations.SbcWritesDifferenceAndFlags : Prop :=
  ∀ (i : Instr) (x : AluSrc), i.form = .alu .sbc x →
    Encodes i (aluBytes 0b011 x) (aluCost x) ∧
    ∀ s, ∃ t, exec i s = .next t ∧
      SetsAccumulator s t (s.getA - operand s x - (BitVec.ofBool s.flags.c).setWidth 8)
        { z := s.getA - operand s x - (BitVec.ofBool s.flags.c).setWidth 8 == 0, n := true
          h := borrowFlag s (decide (s.getA.toNat % 16 < (operand s x).toNat % 16 + s.flags.c.toNat))
          c := borrowFlag s (decide (s.getA.toNat < (operand s x).toNat + s.flags.c.toNat)) }

/-- 42_alu8.md R177. -/
def Obligations.AndWritesResultAndFlags : Prop :=
  ∀ (i : Instr) (x : AluSrc), i.form = .alu .and x →
    Encodes i (aluBytes 0b100 x) (aluCost x) ∧
    ∀ s, ∃ t, exec i s = .next t ∧
      SetsAccumulator s t (s.getA &&& operand s x)
        { z := s.getA &&& operand s x == 0, n := false, h := true, c := false }

/-- 42_alu8.md R178. -/
def Obligations.XorWritesResultAndFlags : Prop :=
  ∀ (i : Instr) (x : AluSrc), i.form = .alu .xor x →
    Encodes i (aluBytes 0b101 x) (aluCost x) ∧
    ∀ s, ∃ t, exec i s = .next t ∧
      SetsAccumulator s t (s.getA ^^^ operand s x)
        { z := decide (s.getA = operand s x), n := false, h := false, c := false }

/-- 42_alu8.md R179. -/
def Obligations.OrWritesResultAndFlags : Prop :=
  ∀ (i : Instr) (x : AluSrc), i.form = .alu .or x →
    Encodes i (aluBytes 0b110 x) (aluCost x) ∧
    ∀ s, ∃ t, exec i s = .next t ∧
      SetsAccumulator s t (s.getA ||| operand s x)
        { z := decide (s.getA = 0 ∧ operand s x = 0), n := false, h := false, c := false }

/-- 42_alu8.md R180, under every value of `SubBorrowPolarity` (R172, decision D5): the flags of SUB, and A is not written. -/
def Obligations.CpComparesAndLeavesA : Prop :=
  ∀ (i : Instr) (x : AluSrc), i.form = .alu .cp x →
    Encodes i (aluBytes 0b111 x) (aluCost x) ∧
    ∀ s, ∃ t, exec i s = .next t ∧
      SetsAccumulator s t s.getA
        { z := decide (s.getA = operand s x), n := true
          h := borrowFlag s (decide (s.getA.toNat % 16 < (operand s x).toNat % 16))
          c := borrowFlag s (decide (s.getA.toNat < (operand s x).toNat)) }

/-- 42_alu8.md R181: no flag keeps an earlier value. Two states that differ in F alone (and, for ADC and SBC, agree on F.C) give the same AF. -/
def Obligations.AluKeepsNoStaleFlag : Prop :=
  ∀ (i : Instr) (o : AluOp) (x : AluSrc) (s s' t t' : State), i.form = .alu o x →
    s' = { s with af := s'.af } → s'.getA = s.getA → ((o = .adc ∨ o = .sbc) → s'.flags.c = s.flags.c) →
    exec i s = .next t → exec i s' = .next t' → t' = t

/-- 42_alu8.md R172 and 95_test_vectors.md's mapping to `NoBorrow`: the parameter flips exactly the H and C of SUB, SBC and CP and the H of DEC,
and no other instruction depends on it. -/
def Obligations.PolarityFlipsOnlySubtractionFlags : Prop :=
  ∀ (i : Instr) (s t : State), exec i (withPolarity .borrow s) = .next t →
    exec i (withPolarity .noBorrow s) =
      .next (withPolarity .noBorrow { t with af := t.af ^^^ polarityMask i.form })

/-! ## Increment and decrement -/

/-- 43_incdec.md R200. That Z is the zero of the result and H the nibble overflow is the spec's decision D7. -/
def Obligations.IncRegWritesResultAndFlags : Prop :=
  ∀ (i : Instr) (r : Reg8), i.form = .incR r →
    Encodes i [0b00#2 ++ r.code ++ 0b100#3] 4 ∧
    ∀ s, ∃ t, exec i s = .next t ∧ PairsOnly s t ∧
      (∀ r', t.getReg8 r' = if r' = r then s.getReg8 r + 1 else s.getReg8 r') ∧
      t.flags = { z := s.getReg8 r + 1 == 0, n := false
                  h := decide ((s.getReg8 r).toNat % 16 = 15), c := s.flags.c } ∧ t.getF &&& 0x0F = 0

/-- 43_incdec.md R201, with decision D7. -/
def Obligations.IncHLWritesResultAndFlags : Prop :=
  ∀ i : Instr, i.form = .incHL →
    Encodes i [0x34] 12 ∧
    ∀ s, ∃ t, exec i s = .next t ∧ t.getA = s.getA ∧ t = { s with af := t.af, mem := t.mem } ∧
      (∀ b, t.busRead b = if b = s.hl then s.busRead s.hl + 1 else s.busRead b) ∧
      t.flags = { z := s.busRead s.hl + 1 == 0, n := false
                  h := decide ((s.busRead s.hl).toNat % 16 = 15), c := s.flags.c } ∧ t.getF &&& 0x0F = 0

/-- 43_incdec.md R202, with decision D7, under every value of `SubBorrowPolarity` (decision D5). -/
def Obligations.DecRegWritesResultAndFlags : Prop :=
  ∀ (i : Instr) (r : Reg8), i.form = .decR r →
    Encodes i [0b00#2 ++ r.code ++ 0b101#3] 4 ∧
    ∀ s, ∃ t, exec i s = .next t ∧ PairsOnly s t ∧
      (∀ r', t.getReg8 r' = if r' = r then s.getReg8 r - 1 else s.getReg8 r') ∧
      t.flags = { z := s.getReg8 r - 1 == 0, n := true
                  h := borrowFlag s (decide ((s.getReg8 r).toNat % 16 = 0)), c := s.flags.c } ∧ t.getF &&& 0x0F = 0

/-- 43_incdec.md R203, with decision D7, under every value of `SubBorrowPolarity` (decision D5). -/
def Obligations.DecHLWritesResultAndFlags : Prop :=
  ∀ i : Instr, i.form = .decHL →
    Encodes i [0x35] 12 ∧
    ∀ s, ∃ t, exec i s = .next t ∧ t.getA = s.getA ∧ t = { s with af := t.af, mem := t.mem } ∧
      (∀ b, t.busRead b = if b = s.hl then s.busRead s.hl - 1 else s.busRead b) ∧
      t.flags = { z := s.busRead s.hl - 1 == 0, n := true
                  h := borrowFlag s (decide ((s.busRead s.hl).toNat % 16 = 0)), c := s.flags.c } ∧ t.getF &&& 0x0F = 0

/-! ## Control transfer and the fault -/

/-- 44_jump.md R210: the meaning sets the pc alone, and the step leaves the target as the final pc, adds 16 under every value of the parameter, and
changes nothing else. `phase` is the model's own (log 6). -/
def Obligations.JumpTargetIsFinal : Prop :=
  ∀ (i : Instr) (nn : Word), i.form = .jp nn →
    Encodes i [0b11000011, lowByte nn, highByte nn] 16 ∧ (∀ s, exec i s = .next { s with pc := nn }) ∧
    ∀ s : State, s.fault = none → s.busRead s.pc = 0xC3 → wordAt s (s.pc + 1) = nn →
      step s = .next { s with pc := nn, cycles := s.cycles + 16, phase := .running }

/-- 60_exceptions.md R221 and R222 (the spec's decision D12) for the meaning: it takes the fault and writes nothing but the latch. The rules
speak of the 68 unknown opcodes. That an ill-formed `unknown op`, of one of the other 188 bytes, takes the fault too is the model's choice
(log 9): no byte sequence decodes to one. -/
def Obligations.UnknownOpcodeTakesTheFault : Prop :=
  ∀ (op : Byte) (s : State), exec (.unknown op) s = .next { s with fault := some (record s op) }

/-! ## Frames of the whole instruction set -/

/-- 10_state.md R28 (with 40_load8.md R120 and 41_load16_stack.md R149): an instruction outside the flag-writing families leaves F as it was. -/
def Obligations.OnlyFlagWritersChangeF : Prop :=
  ∀ (i : Instr) (s t : State), exec i s = .next t → writesFlags i.form = false → t.getF = s.getF

/-- 20_memory.md R54: an instruction changes no memory byte outside the addresses its row stores to. -/
def Obligations.OnlyStoreAddressesChange : Prop :=
  ∀ (i : Instr) (s t : State) (a : Word), exec i s = .next t → a ∉ storeAddrs s i.form → t.busRead a = s.busRead a

/-- 10_state.md R31 and R32: SP is written by LD SP,nn, LD SP,HL, PUSH and POP only, and a meaning writes the pc only for `JP nn`. -/
def Obligations.OnlyTheirWritersChangeSPAndPc : Prop :=
  ∀ (i : Instr) (s t : State), exec i s = .next t →
    (writesSP i.form = false → t.sp = s.sp) ∧ ((∀ nn, i.form ≠ .jp nn) → t.pc = s.pc)

/-! ## Encoding -/

/-- Decoding the bytes of a well-formed instruction gives it back, with every operand value, and leaves what follows. -/
def Obligations.DecodeOfEncodeIsTheInstruction : Prop :=
  ∀ (i : Instr) (rest : List Byte), i.wellFormed = true → decode (encode i ++ rest) = .ok (i, rest)

/-- Whatever decodes is well formed, and its bytes are those it was decoded from; and every sequence of three bytes decodes
(30_encoding.md R96). -/
def Obligations.EncodeOfDecodeIsTheBytes : Prop :=
  (∀ (bytes rest : List Byte) (i : Instr), decode bytes = .ok (i, rest) → i.wellFormed = true ∧ encode i ++ rest = bytes) ∧
  ∀ b0 b1 b2 : Byte, ∃ i rest, decode [b0, b1, b2] = .ok (i, rest)

/-- Each form is the form of exactly one instruction: no two constructors are one instruction and no form is left out. -/
def Obligations.EachFormIsOneInstruction : Prop :=
  ∀ f : Form, ∃ i : Instr, i.form = f ∧ ∀ j : Instr, j.form = f → j = i

/-- 30_encoding.md R88, R93 and R94. That the handler set is these 188 opcodes, with the SM83 encodings, is the spec's decision D4 (log 4), and
the list of the other 68 follows from it. An opcode decodes to `unknown` exactly when R93 lists it, which is exactly when no pattern of R88 matches
it; 188 opcodes match. -/
def Obligations.HandlerSetIsThe188Patterns : Prop :=
  (∀ op : Byte, (op ∈ unknownOpcodes ↔ handlerPattern op = false) ∧
    (op ∈ unknownOpcodes ↔ decode [op, 0, 0] = .ok (.unknown op, [0, 0]))) ∧
  ((List.range 256).filter fun k => handlerPattern (BitVec.ofNat 8 k)).length = 188

/-- Words written out from the patterns of 30_encoding.md R88, one or more of each family. -/
def Obligations.SampleWordsDecode : Prop :=
  decode [0b01000001] = .ok (.ld_b_c, []) ∧ decode [0b01100110] = .ok (.ld_h_atHL, []) ∧
  decode [0b01110101] = .ok (.ld_atHL_l, []) ∧ decode [0b00111110, 0xA5] = .ok (.ld_a_n 0xA5, []) ∧
  decode [0b00110110, 0x3C] = .ok (.ld_atHL_n 0x3C, []) ∧ decode [0b00111010] = .ok (.ld_a_atHLdec, []) ∧
  decode [0b00100010] = .ok (.ld_atHLinc_a, []) ∧ decode [0xEA, 0x23, 0xC1] = .ok (.ld_atNN_a 0xC123, []) ∧
  decode [0xF0, 0x26] = .ok (.ldh_a_atN 0x26, []) ∧ decode [0xE2] = .ok (.ld_atC_a, []) ∧
  decode [0b00110001, 0x00, 0xD0] = .ok (.ld_sp_nn 0xD000, []) ∧ decode [0x08, 0x00, 0xC0] = .ok (.ld_atNN_sp 0xC000, []) ∧
  decode [0b11110101] = .ok (.push_af, []) ∧ decode [0b11010001] = .ok (.pop_de, []) ∧
  decode [0b10000110] = .ok (.add_a_atHL, []) ∧ decode [0b11101110, 0xFF] = .ok (.xor_n 0xFF, []) ∧
  decode [0b00111100] = .ok (.inc_a, []) ∧ decode [0b00110101] = .ok (.dec_atHL, []) ∧
  decode [0xC3, 0x34, 0x12] = .ok (.jp_nn 0x1234, []) ∧ decode [0x76] = .ok (.unknown 0x76, [])

/-- 30_encoding.md R92: the length of an instruction follows from its opcode byte alone, and is 1, 2 or 3. -/
def Obligations.LengthFollowsFromTheOpcode : Prop :=
  (∀ (op : Byte) (more rest : List Byte) (i : Instr), decode (op :: more) = .ok (i, rest) →
    rest = (op :: more).drop (instrLen op) ∧ (op :: more).length = instrLen op + rest.length) ∧
  ∀ op : Byte, 1 ≤ instrLen op ∧ instrLen op ≤ 3

/-! ## The host's load -/

/-- 20_memory.md R71 and R72: the load of an image of any length, before the first step. The truncation at 0x200000 bytes is the spec's decision
D19. That `ram_size_code` is the byte at 0x0148 and `rom_size_code` the byte at 0x0149 is R72 against vector W4 (log 7). -/
def Obligations.LoadCopiesTheImage : Prop :=
  ∀ (s : State) (image : List Byte), s.phase = .fresh →
    ∃ t, s.loadCartridge (some image) = .success t ∧
      (∀ k, k < 0x200000 → Memory.read t.cartBuffer k = image.getD k 0x00) ∧
      (∀ a : Word, t.busRead a =
        if a.toNat < min image.length 0x8000 then image.getD a.toNat 0x00 else s.busRead a) ∧
      t.cartType = image.getD 0x0147 0x00 ∧ t.ramSizeCode = image.getD 0x0148 0x00 ∧
      t.romSizeCode = image.getD 0x0149 0x00 ∧
      t = { s with mem := t.mem, cartBuffer := t.cartBuffer, cartType := t.cartType, ramSizeCode := t.ramSizeCode,
                   romSizeCode := t.romSizeCode, phase := .loaded }

/-- 20_memory.md R73 and R74: a file that cannot be opened gives the negative result and leaves the state; a second load, and a load after a step,
are refused. That a failed call is not the one load is the model's choice (log 6). -/
def Obligations.LoadFailsOrIsRefused : Prop :=
  (∀ s : State, s.phase = .fresh → s.loadCartridge none = .loadError s) ∧
  (∀ (s t : State) (image : List Byte) (file : Option (List Byte)),
    s.loadCartridge (some image) = .success t → t.loadCartridge file = .refused .secondLoad) ∧
  (∀ (s t : State) (file : Option (List Byte)), step s = .next t → t.loadCartridge file = .refused .loadAfterStep)
end

