-- ==== Sys2Proof/Laws/Flags.lean ====
section
/-! SUPPORT. The arithmetic of the ALU datapath in bit-vector terms, and the flag byte. -/

namespace Sys2Proof.Machine

/-! ## Narrowing -/

@[simp] theorem wrap8_natCast (n : Nat) : wrap8 (n : Int) = BitVec.ofNat 8 n := BitVec.ofInt_natCast 8 n

theorem wrap8_add (x y : Int) : wrap8 (x + y) = wrap8 x + wrap8 y := BitVec.ofInt_add x y

theorem wrap8_sub (x y : Int) : wrap8 (x - y) = wrap8 x - wrap8 y := by
  have h := wrap8_add (x - y) y
  rw [Int.sub_add_cancel] at h
  rw [h, BitVec.add_sub_cancel]

/-- The narrowing of a byte is the byte. -/
@[simp] theorem wrap8_toNat (b : Byte) : wrap8 (b.toNat : Int) = b := by
  rw [wrap8_natCast, BitVec.ofNat_toNat, BitVec.setWidth_eq]

@[simp] theorem wrap8_one : wrap8 1 = 1 := rfl

/-- The low nibble as a remainder. -/
theorem lowNibble_eq_mod (b : Byte) : lowNibble b = b.toNat % 16 := by
  revert b; decide

/-! ## The flag byte -/

@[simp] theorem flagMask_flagMask (b : Byte) : flagMask (flagMask b) = flagMask b := by
  revert b; decide

/-- The low nibble a write of F leaves is zero (10_state.md R27). -/
@[simp] theorem flagMask_low (b : Byte) : flagMask b &&& 15#8 = 0#8 := by
  revert b; decide

/-- A flag byte whose low nibble is zero is not changed by the mask. -/
theorem flagMask_of_low {b : Byte} (h : b &&& 15#8 = 0#8) : flagMask b = b := by
  revert b; decide

@[simp] theorem flagMask_toByte (f : Flags) : flagMask f.toByte = f.toByte := by
  obtain ⟨z, n, h, c⟩ := f; revert z n h c; decide

@[simp] theorem toByte_low (f : Flags) : f.toByte &&& 15#8 = 0#8 := by
  obtain ⟨z, n, h, c⟩ := f; revert z n h c; decide

@[simp] theorem ofByte_toByte (f : Flags) : Flags.ofByte f.toByte = f := by
  obtain ⟨z, n, h, c⟩ := f; revert z n h c; decide

@[simp] theorem ofByte_flagMask (b : Byte) : Flags.ofByte (flagMask b) = Flags.ofByte b := by
  revert b; decide

@[simp] theorem toByte_ofByte (b : Byte) : (Flags.ofByte b).toByte = flagMask b := by
  revert b; decide

/-- Under `NoBorrow` a subtraction flag is the complement of its value under `Borrow` (42_alu8.md R172). -/
theorem sflag_noBorrow (borrow : Bool) : sflag .noBorrow borrow = !sflag .borrow borrow := rfl

end Sys2Proof.Machine
end

