-- ==== Sys2Proof/Laws/Memory.lean ====
section
/-! SUPPORT. Byte stores: read after write, and that every operation keeps the canonical form. -/

namespace Sys2Proof.Machine.Memory

/-! ## Reading -/

@[simp] theorem read_nil (a : Nat) : read [] a = unlisted := rfl

theorem read_cons (k : Nat) (b : Byte) (rest : Memory) (a : Nat) :
    read ((k, b) :: rest) a = if k = a then b else read rest a := rfl

theorem erase_cons (k : Nat) (b : Byte) (rest : Memory) (a : Nat) :
    erase ((k, b) :: rest) a = if k = a then erase rest a else (k, b) :: erase rest a := by
  by_cases h : k = a <;> simp [erase, h]

theorem read_erase_self (m : Memory) (a : Nat) : read (erase m a) a = unlisted := by
  induction m with
  | nil => rfl
  | cons c rest ih =>
    obtain ⟨k, v⟩ := c
    by_cases h : k = a <;> simp [erase_cons, h, read_cons, ih]

theorem read_erase_other (m : Memory) {a b : Nat} (hab : b ≠ a) : read (erase m a) b = read m b := by
  induction m with
  | nil => rfl
  | cons c rest ih =>
    obtain ⟨k, v⟩ := c
    by_cases h : k = a
    · have : a ≠ b := fun e => hab e.symm
      simp [erase_cons, h, read_cons, ih, this]
    · simp [erase_cons, h, read_cons, ih]

theorem read_insertCell_self {a : Nat} {v : Byte} {m : Memory} (hno : ∀ c ∈ m, c.1 ≠ a) :
    read (insertCell a v m) a = v := by
  induction m with
  | nil => simp [insertCell, read_cons]
  | cons c rest ih =>
    obtain ⟨k, w⟩ := c
    have hk : k ≠ a := hno (k, w) (by simp)
    simp only [insertCell]
    split
    · simp [read_cons]
    · simpa [read_cons, hk] using ih fun c hc => hno c (by simp [hc])

theorem read_insertCell_other {a b : Nat} (hab : b ≠ a) (v : Byte) (m : Memory) :
    read (insertCell a v m) b = read m b := by
  have hba : a ≠ b := fun e => hab e.symm
  induction m with
  | nil => simp [insertCell, read_cons, hba]
  | cons c rest ih =>
    obtain ⟨k, w⟩ := c
    simp only [insertCell]
    split
    · simp [read_cons, hba]
    · simp [read_cons, ih]

/-- After an erase no cell has the address. -/
theorem ne_of_mem_erase {m : Memory} {a : Nat} {c : Host.Cell} (h : c ∈ erase m a) : c.1 ≠ a := by
  simpa using (List.mem_filter.mp h).2

/-- Read after write, at every address, whatever the store (20_memory.md R53). -/
theorem read_write (m : Memory) (a b : Nat) (v : Byte) : read (write m a v) b = if b = a then v else read m b := by
  unfold write
  by_cases hb : b = a
  · subst hb
    split
    · simp [read_erase_self, *]
    · simp [read_insertCell_self fun _ => ne_of_mem_erase]
  · split
    · simp [read_erase_other m hb]
    · simp [read_insertCell_other hb, read_erase_other m hb]

/-! ## The canonical form -/

theorem wfFrom_cons {cap low k : Nat} {b : Byte} {rest : Memory} :
    wfFrom cap low ((k, b) :: rest) = true ↔
      low ≤ k ∧ k < cap ∧ b ≠ unlisted ∧ wfFrom cap (k + 1) rest = true := by
  simp [wfFrom, and_assoc]

/-- A canonical store is canonical from any lower address on. -/
theorem wfFrom_mono {cap low low' : Nat} {m : Memory} (hl : low' ≤ low) (h : wfFrom cap low m = true) :
    wfFrom cap low' m = true := by
  cases m with
  | nil => rfl
  | cons c rest =>
    obtain ⟨k, b⟩ := c
    rw [wfFrom_cons] at h ⊢
    exact ⟨by omega, h.2⟩

/-- Below its first address a canonical store reads as unlisted. -/
theorem read_below {cap low a : Nat} {m : Memory} (h : wfFrom cap low m = true) (ha : a < low) :
    read m a = unlisted := by
  induction m generalizing low with
  | nil => rfl
  | cons c rest ih =>
    obtain ⟨k, b⟩ := c
    rw [wfFrom_cons] at h
    have hk : k ≠ a := by omega
    simpa [read_cons, hk] using ih h.2.2.2 (by omega)

/-- Keeping the cells that pass a test keeps the canonical form. -/
theorem filter_wfFrom {cap low : Nat} {m : Memory} (f : Host.Cell → Bool) (h : wfFrom cap low m = true) :
    wfFrom cap low (m.filter f) = true := by
  induction m generalizing low with
  | nil => rfl
  | cons c rest ih =>
    obtain ⟨k, b⟩ := c
    rw [wfFrom_cons] at h
    rw [List.filter_cons]
    split
    · exact wfFrom_cons.mpr ⟨h.1, h.2.1, h.2.2.1, ih h.2.2.2⟩
    · exact wfFrom_mono (by omega) (ih h.2.2.2)

theorem insertCell_wfFrom {cap low a : Nat} {v : Byte} {m : Memory} (h : wfFrom cap low m = true)
    (hl : low ≤ a) (hc : a < cap) (hv : v ≠ unlisted) (hno : ∀ c ∈ m, c.1 ≠ a) :
    wfFrom cap low (insertCell a v m) = true := by
  induction m generalizing low with
  | nil => simp [insertCell, wfFrom, hl, hc, hv]
  | cons c rest ih =>
    obtain ⟨k, b⟩ := c
    have hw := wfFrom_cons.mp h
    have hka : k ≠ a := hno (k, b) (by simp)
    simp only [insertCell]
    split
    · exact wfFrom_cons.mpr ⟨hl, hc, hv, wfFrom_cons.mpr ⟨by omega, hw.2⟩⟩
    · exact wfFrom_cons.mpr ⟨hw.1, hw.2.1, hw.2.2.1,
        ih hw.2.2.2 (by omega) fun c hc' => hno c (by simp [hc'])⟩

/-- A write below the cap keeps the canonical form. -/
theorem write_wfFrom {cap a : Nat} {v : Byte} {m : Memory} (h : wfFrom cap 0 m = true) (hc : a < cap) :
    wfFrom cap 0 (write m a v) = true := by
  unfold write
  split
  · exact filter_wfFrom _ h
  · rename_i hv
    exact insertCell_wfFrom (filter_wfFrom _ h) (by omega) hc hv fun _ => ne_of_mem_erase

/-- Every bus write keeps the memory's canonical form. -/
theorem write_wf (m : Memory) (a : Word) (v : Byte) (h : wf m = true) : wf (write m a.toNat v) = true :=
  write_wfFrom h (by simpa [memorySize] using a.isLt)

/-- Seeding keeps it. -/
theorem seeded_wf (seed : List (Word × Byte)) {m : Memory} (h : wf m = true) : wf (seeded seed m) = true := by
  induction seed generalizing m with
  | nil => exact h
  | cons e rest ih => exact ih (write_wf m e.1 e.2 h)

/-! ## Stores made from bytes -/

theorem ofBytes_wfFrom {cap base : Nat} {bytes : List Byte} (h : base + bytes.length ≤ cap) :
    wfFrom cap base (ofBytes base bytes) = true := by
  induction bytes generalizing base with
  | nil => rfl
  | cons b rest ih =>
    simp only [List.length_cons] at h
    have ih' := ih (base := base + 1) (by omega)
    simp only [ofBytes]
    split
    · exact wfFrom_mono (by omega) ih'
    · exact wfFrom_cons.mpr ⟨by omega, by omega, by assumption, ih'⟩

/-- Byte `base + i` of a store made from bytes is byte `i`, and it is unlisted past their end. -/
theorem read_ofBytes (base : Nat) (bytes : List Byte) (i : Nat) :
    read (ofBytes base bytes) (base + i) = bytes.getD i unlisted := by
  induction bytes generalizing base i with
  | nil => rfl
  | cons b rest ih =>
    simp only [ofBytes]
    cases i with
    | zero =>
      split
      · rename_i hb
        rw [read_below (ofBytes_wfFrom (cap := base + 1 + rest.length) (by omega)) (by omega)]
        simp [hb]
      · simp [read_cons]
    | succ j =>
      have : base + (j + 1) = base + 1 + j := by omega
      split
      · rw [this, ih]; simp
      · rw [read_cons, if_neg (by omega), this, ih]; simp

theorem read_filter_ge (m : Memory) (n a : Nat) :
    read (m.filter fun c => decide (n ≤ c.1)) a = if n ≤ a then read m a else unlisted := by
  induction m with
  | nil => simp
  | cons c rest ih =>
    obtain ⟨k, b⟩ := c
    rw [List.filter_cons]
    by_cases hk : n ≤ k
    · by_cases hka : k = a
      · subst hka; simp [hk, read_cons]
      · simp [hk, read_cons, hka, ih]
    · by_cases hka : k = a
      · subst hka; simp [hk, ih]
      · simp [hk, read_cons, hka, ih]

theorem read_append (m m' : Memory) (a : Nat) (h : ∀ c ∈ m, c.2 ≠ unlisted) :
    read (m ++ m') a = if read m a = unlisted then read m' a else read m a := by
  induction m with
  | nil => simp
  | cons c rest ih =>
    obtain ⟨k, b⟩ := c
    have hb : b ≠ unlisted := h (k, b) (by simp)
    by_cases hk : k = a
    · simp [read_cons, hk, hb]
    · simpa [read_cons, hk] using ih fun c hc => h c (by simp [hc])

theorem ofBytes_listed (base : Nat) (bytes : List Byte) : ∀ c ∈ ofBytes base bytes, c.2 ≠ unlisted := by
  induction bytes generalizing base with
  | nil => simp [ofBytes]
  | cons b rest ih =>
    simp only [ofBytes]
    split
    · exact ih _
    · rename_i hb
      intro c hc
      rcases List.mem_cons.mp hc with rfl | hc
      · exact hb
      · exact ih _ c hc

/-- The store after an overlay: the bytes below their length, the old store above it (20_memory.md R71). -/
theorem read_overlayLow (bytes : List Byte) (m : Memory) (a : Nat) :
    read (overlayLow bytes m) a = if a < bytes.length then bytes.getD a unlisted else read m a := by
  have hread := read_ofBytes 0 bytes a
  simp only [Nat.zero_add] at hread
  rw [overlayLow, read_append _ _ _ (ofBytes_listed 0 bytes), read_filter_ge, hread]
  by_cases ha : a < bytes.length
  · have hn : ¬ bytes.length ≤ a := by omega
    by_cases hz : bytes.getD a unlisted = unlisted <;> simp_all
  · have hn : bytes.length ≤ a := by omega
    have hz : bytes.getD a unlisted = unlisted := by simp [List.getD, List.getElem?_eq_none hn]
    simp [ha, hn]

theorem filter_ge_wfFrom {cap low n : Nat} {m : Memory} (h : wfFrom cap low m = true) :
    wfFrom cap n (m.filter fun c => decide (n ≤ c.1)) = true := by
  induction m generalizing low with
  | nil => rfl
  | cons c rest ih =>
    obtain ⟨k, b⟩ := c
    have hw := wfFrom_cons.mp h
    rw [List.filter_cons]
    split
    · rename_i hk
      exact wfFrom_cons.mpr ⟨by simpa using hk, hw.2.1, hw.2.2.1, filter_wfFrom _ hw.2.2.2⟩
    · exact ih hw.2.2.2

theorem append_wfFrom {cap low n : Nat} {m m' : Memory} (h : wfFrom cap low m = true) (hm : ∀ c ∈ m, c.1 < n)
    (hln : low ≤ n) (h' : wfFrom cap n m' = true) : wfFrom cap low (m ++ m') = true := by
  induction m generalizing low with
  | nil => exact wfFrom_mono hln h'
  | cons c rest ih =>
    obtain ⟨k, b⟩ := c
    have hw := wfFrom_cons.mp h
    have hk : k < n := hm (k, b) (by simp)
    exact wfFrom_cons.mpr ⟨hw.1, hw.2.1, hw.2.2.1,
      ih hw.2.2.2 (fun c hc => hm c (by simp [hc])) (by omega)⟩

theorem ofBytes_below (base : Nat) (bytes : List Byte) : ∀ c ∈ ofBytes base bytes, c.1 < base + bytes.length := by
  induction bytes generalizing base with
  | nil => simp [ofBytes]
  | cons b rest ih =>
    intro c hc
    simp only [List.length_cons]
    simp only [ofBytes] at hc
    split at hc
    · have := ih _ c hc; omega
    · rcases List.mem_cons.mp hc with rfl | hc
      · dsimp; omega
      · have := ih _ c hc; omega

/-- An overlay that fits keeps the canonical form. -/
theorem overlayLow_wf {bytes : List Byte} {m : Memory} (hb : bytes.length ≤ memorySize) (h : wf m = true) :
    wf (overlayLow bytes m) = true :=
  append_wfFrom (ofBytes_wfFrom (by omega)) (by simpa using ofBytes_below 0 bytes) (Nat.zero_le _) (filter_ge_wfFrom h)

/-! ## Canonical means extensional -/

/-- Two canonical stores that read alike are equal: equal memories are equal data. -/
theorem eq_of_read_eq {cap low : Nat} {m m' : Memory} (h : wfFrom cap low m = true) (h' : wfFrom cap low m' = true)
    (hr : ∀ a, read m a = read m' a) : m = m' := by
  induction m generalizing low m' with
  | nil =>
    cases m' with
    | nil => rfl
    | cons c' rest' =>
      obtain ⟨k', b'⟩ := c'
      have := hr k'
      simp [read_cons] at this
      exact absurd this.symm (wfFrom_cons.mp h').2.2.1
  | cons c rest ih =>
    obtain ⟨k, b⟩ := c
    have hw := wfFrom_cons.mp h
    cases m' with
    | nil =>
      have := hr k
      simp [read_cons] at this
      exact absurd this hw.2.2.1
    | cons c' rest' =>
      obtain ⟨k', b'⟩ := c'
      have hw' := wfFrom_cons.mp h'
      have hkk : k = k' := by
        rcases Nat.lt_trichotomy k k' with hlt | heq | hgt
        · have := hr k
          rw [read_cons, if_pos rfl, read_cons, if_neg (by omega), read_below hw'.2.2.2 (by omega)] at this
          exact absurd this hw.2.2.1
        · exact heq
        · have := hr k'
          rw [read_cons, if_neg (by omega), read_below hw.2.2.2 (by omega), read_cons, if_pos rfl] at this
          exact absurd this.symm hw'.2.2.1
      subst hkk
      have hb : b = b' := by simpa [read_cons] using hr k
      subst hb
      have : rest = rest' := by
        refine ih hw.2.2.2 hw'.2.2.2 fun a => ?_
        by_cases ha : a < k + 1
        · rw [read_below hw.2.2.2 ha, read_below hw'.2.2.2 ha]
        · have := hr a
          rwa [read_cons, if_neg (by omega), read_cons, if_neg (by omega)] at this
      rw [this]

end Sys2Proof.Machine.Memory
end

