-- ==== Sys2Proof/Laws/State.lean ====
section
/-! SUPPORT. One lemma per field per update of State, so that no later proof unfolds a record update. -/

namespace Sys2Proof.Machine.State

/-! ### withAf -/

@[simp] theorem withAf_af (s : State) (v : Word) : (s.withAf v).af = v := rfl
@[simp] theorem withAf_bc (s : State) (v : Word) : (s.withAf v).bc = s.bc := rfl
@[simp] theorem withAf_de (s : State) (v : Word) : (s.withAf v).de = s.de := rfl
@[simp] theorem withAf_hl (s : State) (v : Word) : (s.withAf v).hl = s.hl := rfl
@[simp] theorem withAf_sp (s : State) (v : Word) : (s.withAf v).sp = s.sp := rfl
@[simp] theorem withAf_pc (s : State) (v : Word) : (s.withAf v).pc = s.pc := rfl
@[simp] theorem withAf_mem (s : State) (v : Word) : (s.withAf v).mem = s.mem := rfl
@[simp] theorem withAf_cycles (s : State) (v : Word) : (s.withAf v).cycles = s.cycles := rfl
@[simp] theorem withAf_fault (s : State) (v : Word) : (s.withAf v).fault = s.fault := rfl
@[simp] theorem withAf_cartType (s : State) (v : Word) : (s.withAf v).cartType = s.cartType := rfl
@[simp] theorem withAf_ramSizeCode (s : State) (v : Word) : (s.withAf v).ramSizeCode = s.ramSizeCode := rfl
@[simp] theorem withAf_romSizeCode (s : State) (v : Word) : (s.withAf v).romSizeCode = s.romSizeCode := rfl
@[simp] theorem withAf_cartBuffer (s : State) (v : Word) : (s.withAf v).cartBuffer = s.cartBuffer := rfl
@[simp] theorem withAf_phase (s : State) (v : Word) : (s.withAf v).phase = s.phase := rfl
@[simp] theorem withAf_params (s : State) (v : Word) : (s.withAf v).params = s.params := rfl

/-! ### withBc -/

@[simp] theorem withBc_af (s : State) (v : Word) : (s.withBc v).af = s.af := rfl
@[simp] theorem withBc_bc (s : State) (v : Word) : (s.withBc v).bc = v := rfl
@[simp] theorem withBc_de (s : State) (v : Word) : (s.withBc v).de = s.de := rfl
@[simp] theorem withBc_hl (s : State) (v : Word) : (s.withBc v).hl = s.hl := rfl
@[simp] theorem withBc_sp (s : State) (v : Word) : (s.withBc v).sp = s.sp := rfl
@[simp] theorem withBc_pc (s : State) (v : Word) : (s.withBc v).pc = s.pc := rfl
@[simp] theorem withBc_mem (s : State) (v : Word) : (s.withBc v).mem = s.mem := rfl
@[simp] theorem withBc_cycles (s : State) (v : Word) : (s.withBc v).cycles = s.cycles := rfl
@[simp] theorem withBc_fault (s : State) (v : Word) : (s.withBc v).fault = s.fault := rfl
@[simp] theorem withBc_cartType (s : State) (v : Word) : (s.withBc v).cartType = s.cartType := rfl
@[simp] theorem withBc_ramSizeCode (s : State) (v : Word) : (s.withBc v).ramSizeCode = s.ramSizeCode := rfl
@[simp] theorem withBc_romSizeCode (s : State) (v : Word) : (s.withBc v).romSizeCode = s.romSizeCode := rfl
@[simp] theorem withBc_cartBuffer (s : State) (v : Word) : (s.withBc v).cartBuffer = s.cartBuffer := rfl
@[simp] theorem withBc_phase (s : State) (v : Word) : (s.withBc v).phase = s.phase := rfl
@[simp] theorem withBc_params (s : State) (v : Word) : (s.withBc v).params = s.params := rfl

/-! ### withDe -/

@[simp] theorem withDe_af (s : State) (v : Word) : (s.withDe v).af = s.af := rfl
@[simp] theorem withDe_bc (s : State) (v : Word) : (s.withDe v).bc = s.bc := rfl
@[simp] theorem withDe_de (s : State) (v : Word) : (s.withDe v).de = v := rfl
@[simp] theorem withDe_hl (s : State) (v : Word) : (s.withDe v).hl = s.hl := rfl
@[simp] theorem withDe_sp (s : State) (v : Word) : (s.withDe v).sp = s.sp := rfl
@[simp] theorem withDe_pc (s : State) (v : Word) : (s.withDe v).pc = s.pc := rfl
@[simp] theorem withDe_mem (s : State) (v : Word) : (s.withDe v).mem = s.mem := rfl
@[simp] theorem withDe_cycles (s : State) (v : Word) : (s.withDe v).cycles = s.cycles := rfl
@[simp] theorem withDe_fault (s : State) (v : Word) : (s.withDe v).fault = s.fault := rfl
@[simp] theorem withDe_cartType (s : State) (v : Word) : (s.withDe v).cartType = s.cartType := rfl
@[simp] theorem withDe_ramSizeCode (s : State) (v : Word) : (s.withDe v).ramSizeCode = s.ramSizeCode := rfl
@[simp] theorem withDe_romSizeCode (s : State) (v : Word) : (s.withDe v).romSizeCode = s.romSizeCode := rfl
@[simp] theorem withDe_cartBuffer (s : State) (v : Word) : (s.withDe v).cartBuffer = s.cartBuffer := rfl
@[simp] theorem withDe_phase (s : State) (v : Word) : (s.withDe v).phase = s.phase := rfl
@[simp] theorem withDe_params (s : State) (v : Word) : (s.withDe v).params = s.params := rfl

/-! ### withHl -/

@[simp] theorem withHl_af (s : State) (v : Word) : (s.withHl v).af = s.af := rfl
@[simp] theorem withHl_bc (s : State) (v : Word) : (s.withHl v).bc = s.bc := rfl
@[simp] theorem withHl_de (s : State) (v : Word) : (s.withHl v).de = s.de := rfl
@[simp] theorem withHl_hl (s : State) (v : Word) : (s.withHl v).hl = v := rfl
@[simp] theorem withHl_sp (s : State) (v : Word) : (s.withHl v).sp = s.sp := rfl
@[simp] theorem withHl_pc (s : State) (v : Word) : (s.withHl v).pc = s.pc := rfl
@[simp] theorem withHl_mem (s : State) (v : Word) : (s.withHl v).mem = s.mem := rfl
@[simp] theorem withHl_cycles (s : State) (v : Word) : (s.withHl v).cycles = s.cycles := rfl
@[simp] theorem withHl_fault (s : State) (v : Word) : (s.withHl v).fault = s.fault := rfl
@[simp] theorem withHl_cartType (s : State) (v : Word) : (s.withHl v).cartType = s.cartType := rfl
@[simp] theorem withHl_ramSizeCode (s : State) (v : Word) : (s.withHl v).ramSizeCode = s.ramSizeCode := rfl
@[simp] theorem withHl_romSizeCode (s : State) (v : Word) : (s.withHl v).romSizeCode = s.romSizeCode := rfl
@[simp] theorem withHl_cartBuffer (s : State) (v : Word) : (s.withHl v).cartBuffer = s.cartBuffer := rfl
@[simp] theorem withHl_phase (s : State) (v : Word) : (s.withHl v).phase = s.phase := rfl
@[simp] theorem withHl_params (s : State) (v : Word) : (s.withHl v).params = s.params := rfl

/-! ### withSp -/

@[simp] theorem withSp_af (s : State) (v : Word) : (s.withSp v).af = s.af := rfl
@[simp] theorem withSp_bc (s : State) (v : Word) : (s.withSp v).bc = s.bc := rfl
@[simp] theorem withSp_de (s : State) (v : Word) : (s.withSp v).de = s.de := rfl
@[simp] theorem withSp_hl (s : State) (v : Word) : (s.withSp v).hl = s.hl := rfl
@[simp] theorem withSp_sp (s : State) (v : Word) : (s.withSp v).sp = v := rfl
@[simp] theorem withSp_pc (s : State) (v : Word) : (s.withSp v).pc = s.pc := rfl
@[simp] theorem withSp_mem (s : State) (v : Word) : (s.withSp v).mem = s.mem := rfl
@[simp] theorem withSp_cycles (s : State) (v : Word) : (s.withSp v).cycles = s.cycles := rfl
@[simp] theorem withSp_fault (s : State) (v : Word) : (s.withSp v).fault = s.fault := rfl
@[simp] theorem withSp_cartType (s : State) (v : Word) : (s.withSp v).cartType = s.cartType := rfl
@[simp] theorem withSp_ramSizeCode (s : State) (v : Word) : (s.withSp v).ramSizeCode = s.ramSizeCode := rfl
@[simp] theorem withSp_romSizeCode (s : State) (v : Word) : (s.withSp v).romSizeCode = s.romSizeCode := rfl
@[simp] theorem withSp_cartBuffer (s : State) (v : Word) : (s.withSp v).cartBuffer = s.cartBuffer := rfl
@[simp] theorem withSp_phase (s : State) (v : Word) : (s.withSp v).phase = s.phase := rfl
@[simp] theorem withSp_params (s : State) (v : Word) : (s.withSp v).params = s.params := rfl

/-! ### withPc -/

@[simp] theorem withPc_af (s : State) (v : Word) : (s.withPc v).af = s.af := rfl
@[simp] theorem withPc_bc (s : State) (v : Word) : (s.withPc v).bc = s.bc := rfl
@[simp] theorem withPc_de (s : State) (v : Word) : (s.withPc v).de = s.de := rfl
@[simp] theorem withPc_hl (s : State) (v : Word) : (s.withPc v).hl = s.hl := rfl
@[simp] theorem withPc_sp (s : State) (v : Word) : (s.withPc v).sp = s.sp := rfl
@[simp] theorem withPc_pc (s : State) (v : Word) : (s.withPc v).pc = v := rfl
@[simp] theorem withPc_mem (s : State) (v : Word) : (s.withPc v).mem = s.mem := rfl
@[simp] theorem withPc_cycles (s : State) (v : Word) : (s.withPc v).cycles = s.cycles := rfl
@[simp] theorem withPc_fault (s : State) (v : Word) : (s.withPc v).fault = s.fault := rfl
@[simp] theorem withPc_cartType (s : State) (v : Word) : (s.withPc v).cartType = s.cartType := rfl
@[simp] theorem withPc_ramSizeCode (s : State) (v : Word) : (s.withPc v).ramSizeCode = s.ramSizeCode := rfl
@[simp] theorem withPc_romSizeCode (s : State) (v : Word) : (s.withPc v).romSizeCode = s.romSizeCode := rfl
@[simp] theorem withPc_cartBuffer (s : State) (v : Word) : (s.withPc v).cartBuffer = s.cartBuffer := rfl
@[simp] theorem withPc_phase (s : State) (v : Word) : (s.withPc v).phase = s.phase := rfl
@[simp] theorem withPc_params (s : State) (v : Word) : (s.withPc v).params = s.params := rfl

/-! ### withMem -/

@[simp] theorem withMem_af (s : State) (v : Memory) : (s.withMem v).af = s.af := rfl
@[simp] theorem withMem_bc (s : State) (v : Memory) : (s.withMem v).bc = s.bc := rfl
@[simp] theorem withMem_de (s : State) (v : Memory) : (s.withMem v).de = s.de := rfl
@[simp] theorem withMem_hl (s : State) (v : Memory) : (s.withMem v).hl = s.hl := rfl
@[simp] theorem withMem_sp (s : State) (v : Memory) : (s.withMem v).sp = s.sp := rfl
@[simp] theorem withMem_pc (s : State) (v : Memory) : (s.withMem v).pc = s.pc := rfl
@[simp] theorem withMem_mem (s : State) (v : Memory) : (s.withMem v).mem = v := rfl
@[simp] theorem withMem_cycles (s : State) (v : Memory) : (s.withMem v).cycles = s.cycles := rfl
@[simp] theorem withMem_fault (s : State) (v : Memory) : (s.withMem v).fault = s.fault := rfl
@[simp] theorem withMem_cartType (s : State) (v : Memory) : (s.withMem v).cartType = s.cartType := rfl
@[simp] theorem withMem_ramSizeCode (s : State) (v : Memory) : (s.withMem v).ramSizeCode = s.ramSizeCode := rfl
@[simp] theorem withMem_romSizeCode (s : State) (v : Memory) : (s.withMem v).romSizeCode = s.romSizeCode := rfl
@[simp] theorem withMem_cartBuffer (s : State) (v : Memory) : (s.withMem v).cartBuffer = s.cartBuffer := rfl
@[simp] theorem withMem_phase (s : State) (v : Memory) : (s.withMem v).phase = s.phase := rfl
@[simp] theorem withMem_params (s : State) (v : Memory) : (s.withMem v).params = s.params := rfl

/-! ### withCycles -/

@[simp] theorem withCycles_af (s : State) (v : Nat) : (s.withCycles v).af = s.af := rfl
@[simp] theorem withCycles_bc (s : State) (v : Nat) : (s.withCycles v).bc = s.bc := rfl
@[simp] theorem withCycles_de (s : State) (v : Nat) : (s.withCycles v).de = s.de := rfl
@[simp] theorem withCycles_hl (s : State) (v : Nat) : (s.withCycles v).hl = s.hl := rfl
@[simp] theorem withCycles_sp (s : State) (v : Nat) : (s.withCycles v).sp = s.sp := rfl
@[simp] theorem withCycles_pc (s : State) (v : Nat) : (s.withCycles v).pc = s.pc := rfl
@[simp] theorem withCycles_mem (s : State) (v : Nat) : (s.withCycles v).mem = s.mem := rfl
@[simp] theorem withCycles_cycles (s : State) (v : Nat) : (s.withCycles v).cycles = v := rfl
@[simp] theorem withCycles_fault (s : State) (v : Nat) : (s.withCycles v).fault = s.fault := rfl
@[simp] theorem withCycles_cartType (s : State) (v : Nat) : (s.withCycles v).cartType = s.cartType := rfl
@[simp] theorem withCycles_ramSizeCode (s : State) (v : Nat) : (s.withCycles v).ramSizeCode = s.ramSizeCode := rfl
@[simp] theorem withCycles_romSizeCode (s : State) (v : Nat) : (s.withCycles v).romSizeCode = s.romSizeCode := rfl
@[simp] theorem withCycles_cartBuffer (s : State) (v : Nat) : (s.withCycles v).cartBuffer = s.cartBuffer := rfl
@[simp] theorem withCycles_phase (s : State) (v : Nat) : (s.withCycles v).phase = s.phase := rfl
@[simp] theorem withCycles_params (s : State) (v : Nat) : (s.withCycles v).params = s.params := rfl

/-! ### withFault -/

@[simp] theorem withFault_af (s : State) (v : Option FaultRecord) : (s.withFault v).af = s.af := rfl
@[simp] theorem withFault_bc (s : State) (v : Option FaultRecord) : (s.withFault v).bc = s.bc := rfl
@[simp] theorem withFault_de (s : State) (v : Option FaultRecord) : (s.withFault v).de = s.de := rfl
@[simp] theorem withFault_hl (s : State) (v : Option FaultRecord) : (s.withFault v).hl = s.hl := rfl
@[simp] theorem withFault_sp (s : State) (v : Option FaultRecord) : (s.withFault v).sp = s.sp := rfl
@[simp] theorem withFault_pc (s : State) (v : Option FaultRecord) : (s.withFault v).pc = s.pc := rfl
@[simp] theorem withFault_mem (s : State) (v : Option FaultRecord) : (s.withFault v).mem = s.mem := rfl
@[simp] theorem withFault_cycles (s : State) (v : Option FaultRecord) : (s.withFault v).cycles = s.cycles := rfl
@[simp] theorem withFault_fault (s : State) (v : Option FaultRecord) : (s.withFault v).fault = v := rfl
@[simp] theorem withFault_cartType (s : State) (v : Option FaultRecord) : (s.withFault v).cartType = s.cartType := rfl
@[simp] theorem withFault_ramSizeCode (s : State) (v : Option FaultRecord) : (s.withFault v).ramSizeCode = s.ramSizeCode := rfl
@[simp] theorem withFault_romSizeCode (s : State) (v : Option FaultRecord) : (s.withFault v).romSizeCode = s.romSizeCode := rfl
@[simp] theorem withFault_cartBuffer (s : State) (v : Option FaultRecord) : (s.withFault v).cartBuffer = s.cartBuffer := rfl
@[simp] theorem withFault_phase (s : State) (v : Option FaultRecord) : (s.withFault v).phase = s.phase := rfl
@[simp] theorem withFault_params (s : State) (v : Option FaultRecord) : (s.withFault v).params = s.params := rfl

/-! ### withPhase -/

@[simp] theorem withPhase_af (s : State) (v : HostPhase) : (s.withPhase v).af = s.af := rfl
@[simp] theorem withPhase_bc (s : State) (v : HostPhase) : (s.withPhase v).bc = s.bc := rfl
@[simp] theorem withPhase_de (s : State) (v : HostPhase) : (s.withPhase v).de = s.de := rfl
@[simp] theorem withPhase_hl (s : State) (v : HostPhase) : (s.withPhase v).hl = s.hl := rfl
@[simp] theorem withPhase_sp (s : State) (v : HostPhase) : (s.withPhase v).sp = s.sp := rfl
@[simp] theorem withPhase_pc (s : State) (v : HostPhase) : (s.withPhase v).pc = s.pc := rfl
@[simp] theorem withPhase_mem (s : State) (v : HostPhase) : (s.withPhase v).mem = s.mem := rfl
@[simp] theorem withPhase_cycles (s : State) (v : HostPhase) : (s.withPhase v).cycles = s.cycles := rfl
@[simp] theorem withPhase_fault (s : State) (v : HostPhase) : (s.withPhase v).fault = s.fault := rfl
@[simp] theorem withPhase_cartType (s : State) (v : HostPhase) : (s.withPhase v).cartType = s.cartType := rfl
@[simp] theorem withPhase_ramSizeCode (s : State) (v : HostPhase) : (s.withPhase v).ramSizeCode = s.ramSizeCode := rfl
@[simp] theorem withPhase_romSizeCode (s : State) (v : HostPhase) : (s.withPhase v).romSizeCode = s.romSizeCode := rfl
@[simp] theorem withPhase_cartBuffer (s : State) (v : HostPhase) : (s.withPhase v).cartBuffer = s.cartBuffer := rfl
@[simp] theorem withPhase_phase (s : State) (v : HostPhase) : (s.withPhase v).phase = v := rfl
@[simp] theorem withPhase_params (s : State) (v : HostPhase) : (s.withPhase v).params = s.params := rfl

/-- Two states with equal fields are equal. -/
theorem ext_fields {s t : State} (haf : s.af = t.af) (hbc : s.bc = t.bc) (hde : s.de = t.de) (hhl : s.hl = t.hl)
    (hsp : s.sp = t.sp) (hpc : s.pc = t.pc) (hmem : s.mem = t.mem) (hcycles : s.cycles = t.cycles)
    (hfault : s.fault = t.fault) (hct : s.cartType = t.cartType) (hram : s.ramSizeCode = t.ramSizeCode)
    (hrom : s.romSizeCode = t.romSizeCode) (hbuf : s.cartBuffer = t.cartBuffer) (hphase : s.phase = t.phase)
    (hparams : s.params = t.params) : s = t := by
  cases s; cases t; simp_all

end Sys2Proof.Machine.State
end

