-- ==== Sys2Proof/Laws/Ops.lean ====
section
/-! SUPPORT. What the shared operations over registers, flags and the bus do. -/

namespace Sys2Proof.Machine

/-! ## Bit fields -/

theorem getLsbD_join (h l : Byte) (i : Nat) :
    (join h l).getLsbD i = if i < 8 then l.getLsbD i else h.getLsbD (i - 8) := by
  have := BitVec.getLsbD_append (x := h) (y := l) (i := i)
  exact this
@[simp] theorem hi_join (h l : Byte) : hi (join h l) = h := by
  apply BitVec.eq_of_getLsbD_eq; intro i hi'
  simp only [hi, BitVec.getLsbD_extractLsb', getLsbD_join]
  simp [hi']
@[simp] theorem lo_join (h l : Byte) : lo (join h l) = l := by
  apply BitVec.eq_of_getLsbD_eq; intro i hi'
  simp only [lo, BitVec.getLsbD_extractLsb', getLsbD_join]
  simp [hi']
@[simp] theorem join_hi_lo (w : Word) : join (hi w) (lo w) = w := by
  apply BitVec.eq_of_getLsbD_eq; intro i hi'
  simp only [hi, lo, getLsbD_join, BitVec.getLsbD_extractLsb']
  by_cases h : i < 8
  · simp [h]
  · have : 8 + (i - 8) = i := by omega
    have h' : i - 8 < 8 := by omega
    simp [h, h', this]

namespace State

/-! ## Fields a register write leaves alone -/

@[simp] theorem setA_bc (s : State) (v : Byte) : (s.setA v).bc = s.bc := rfl
@[simp] theorem setA_de (s : State) (v : Byte) : (s.setA v).de = s.de := rfl
@[simp] theorem setA_hl (s : State) (v : Byte) : (s.setA v).hl = s.hl := rfl
@[simp] theorem setA_sp (s : State) (v : Byte) : (s.setA v).sp = s.sp := rfl
@[simp] theorem setA_pc (s : State) (v : Byte) : (s.setA v).pc = s.pc := rfl
@[simp] theorem setA_mem (s : State) (v : Byte) : (s.setA v).mem = s.mem := rfl
@[simp] theorem setA_cycles (s : State) (v : Byte) : (s.setA v).cycles = s.cycles := rfl
@[simp] theorem setA_fault (s : State) (v : Byte) : (s.setA v).fault = s.fault := rfl
@[simp] theorem setA_cartType (s : State) (v : Byte) : (s.setA v).cartType = s.cartType := rfl
@[simp] theorem setA_ramSizeCode (s : State) (v : Byte) : (s.setA v).ramSizeCode = s.ramSizeCode := rfl
@[simp] theorem setA_romSizeCode (s : State) (v : Byte) : (s.setA v).romSizeCode = s.romSizeCode := rfl
@[simp] theorem setA_cartBuffer (s : State) (v : Byte) : (s.setA v).cartBuffer = s.cartBuffer := rfl
@[simp] theorem setA_phase (s : State) (v : Byte) : (s.setA v).phase = s.phase := rfl
@[simp] theorem setA_params (s : State) (v : Byte) : (s.setA v).params = s.params := rfl

@[simp] theorem setF_bc (s : State) (v : Byte) : (s.setF v).bc = s.bc := rfl
@[simp] theorem setF_de (s : State) (v : Byte) : (s.setF v).de = s.de := rfl
@[simp] theorem setF_hl (s : State) (v : Byte) : (s.setF v).hl = s.hl := rfl
@[simp] theorem setF_sp (s : State) (v : Byte) : (s.setF v).sp = s.sp := rfl
@[simp] theorem setF_pc (s : State) (v : Byte) : (s.setF v).pc = s.pc := rfl
@[simp] theorem setF_mem (s : State) (v : Byte) : (s.setF v).mem = s.mem := rfl
@[simp] theorem setF_cycles (s : State) (v : Byte) : (s.setF v).cycles = s.cycles := rfl
@[simp] theorem setF_fault (s : State) (v : Byte) : (s.setF v).fault = s.fault := rfl
@[simp] theorem setF_cartType (s : State) (v : Byte) : (s.setF v).cartType = s.cartType := rfl
@[simp] theorem setF_ramSizeCode (s : State) (v : Byte) : (s.setF v).ramSizeCode = s.ramSizeCode := rfl
@[simp] theorem setF_romSizeCode (s : State) (v : Byte) : (s.setF v).romSizeCode = s.romSizeCode := rfl
@[simp] theorem setF_cartBuffer (s : State) (v : Byte) : (s.setF v).cartBuffer = s.cartBuffer := rfl
@[simp] theorem setF_phase (s : State) (v : Byte) : (s.setF v).phase = s.phase := rfl
@[simp] theorem setF_params (s : State) (v : Byte) : (s.setF v).params = s.params := rfl

@[simp] theorem setReg8_sp (s : State) (r : Reg8) (v : Byte) : (s.setReg8 r v).sp = s.sp := by cases r <;> rfl
@[simp] theorem setReg8_pc (s : State) (r : Reg8) (v : Byte) : (s.setReg8 r v).pc = s.pc := by cases r <;> rfl
@[simp] theorem setReg8_mem (s : State) (r : Reg8) (v : Byte) : (s.setReg8 r v).mem = s.mem := by cases r <;> rfl
@[simp] theorem setReg8_cycles (s : State) (r : Reg8) (v : Byte) : (s.setReg8 r v).cycles = s.cycles := by cases r <;> rfl
@[simp] theorem setReg8_fault (s : State) (r : Reg8) (v : Byte) : (s.setReg8 r v).fault = s.fault := by cases r <;> rfl
@[simp] theorem setReg8_cartType (s : State) (r : Reg8) (v : Byte) : (s.setReg8 r v).cartType = s.cartType := by cases r <;> rfl
@[simp] theorem setReg8_ramSizeCode (s : State) (r : Reg8) (v : Byte) : (s.setReg8 r v).ramSizeCode = s.ramSizeCode := by cases r <;> rfl
@[simp] theorem setReg8_romSizeCode (s : State) (r : Reg8) (v : Byte) : (s.setReg8 r v).romSizeCode = s.romSizeCode := by cases r <;> rfl
@[simp] theorem setReg8_cartBuffer (s : State) (r : Reg8) (v : Byte) : (s.setReg8 r v).cartBuffer = s.cartBuffer := by cases r <;> rfl
@[simp] theorem setReg8_phase (s : State) (r : Reg8) (v : Byte) : (s.setReg8 r v).phase = s.phase := by cases r <;> rfl
@[simp] theorem setReg8_params (s : State) (r : Reg8) (v : Byte) : (s.setReg8 r v).params = s.params := by cases r <;> rfl

@[simp] theorem setPairP_af (s : State) (p : PairP) (v : Word) : (s.setPairP p v).af = s.af := by cases p <;> rfl
@[simp] theorem setPairP_pc (s : State) (p : PairP) (v : Word) : (s.setPairP p v).pc = s.pc := by cases p <;> rfl
@[simp] theorem setPairP_mem (s : State) (p : PairP) (v : Word) : (s.setPairP p v).mem = s.mem := by cases p <;> rfl
@[simp] theorem setPairP_cycles (s : State) (p : PairP) (v : Word) : (s.setPairP p v).cycles = s.cycles := by cases p <;> rfl
@[simp] theorem setPairP_fault (s : State) (p : PairP) (v : Word) : (s.setPairP p v).fault = s.fault := by cases p <;> rfl
@[simp] theorem setPairP_cartType (s : State) (p : PairP) (v : Word) : (s.setPairP p v).cartType = s.cartType := by cases p <;> rfl
@[simp] theorem setPairP_ramSizeCode (s : State) (p : PairP) (v : Word) : (s.setPairP p v).ramSizeCode = s.ramSizeCode := by cases p <;> rfl
@[simp] theorem setPairP_romSizeCode (s : State) (p : PairP) (v : Word) : (s.setPairP p v).romSizeCode = s.romSizeCode := by cases p <;> rfl
@[simp] theorem setPairP_cartBuffer (s : State) (p : PairP) (v : Word) : (s.setPairP p v).cartBuffer = s.cartBuffer := by cases p <;> rfl
@[simp] theorem setPairP_phase (s : State) (p : PairP) (v : Word) : (s.setPairP p v).phase = s.phase := by cases p <;> rfl
@[simp] theorem setPairP_params (s : State) (p : PairP) (v : Word) : (s.setPairP p v).params = s.params := by cases p <;> rfl

@[simp] theorem setPairQ_sp (s : State) (q : PairQ) (v : Word) : (s.setPairQ q v).sp = s.sp := by cases q <;> rfl
@[simp] theorem setPairQ_pc (s : State) (q : PairQ) (v : Word) : (s.setPairQ q v).pc = s.pc := by cases q <;> rfl
@[simp] theorem setPairQ_mem (s : State) (q : PairQ) (v : Word) : (s.setPairQ q v).mem = s.mem := by cases q <;> rfl
@[simp] theorem setPairQ_cycles (s : State) (q : PairQ) (v : Word) : (s.setPairQ q v).cycles = s.cycles := by cases q <;> rfl
@[simp] theorem setPairQ_fault (s : State) (q : PairQ) (v : Word) : (s.setPairQ q v).fault = s.fault := by cases q <;> rfl
@[simp] theorem setPairQ_cartType (s : State) (q : PairQ) (v : Word) : (s.setPairQ q v).cartType = s.cartType := by cases q <;> rfl
@[simp] theorem setPairQ_ramSizeCode (s : State) (q : PairQ) (v : Word) : (s.setPairQ q v).ramSizeCode = s.ramSizeCode := by cases q <;> rfl
@[simp] theorem setPairQ_romSizeCode (s : State) (q : PairQ) (v : Word) : (s.setPairQ q v).romSizeCode = s.romSizeCode := by cases q <;> rfl
@[simp] theorem setPairQ_cartBuffer (s : State) (q : PairQ) (v : Word) : (s.setPairQ q v).cartBuffer = s.cartBuffer := by cases q <;> rfl
@[simp] theorem setPairQ_phase (s : State) (q : PairQ) (v : Word) : (s.setPairQ q v).phase = s.phase := by cases q <;> rfl
@[simp] theorem setPairQ_params (s : State) (q : PairQ) (v : Word) : (s.setPairQ q v).params = s.params := by cases q <;> rfl

@[simp] theorem busWrite_af (s : State) (a : Word) (v : Byte) : (s.busWrite a v).af = s.af := rfl
@[simp] theorem busWrite_bc (s : State) (a : Word) (v : Byte) : (s.busWrite a v).bc = s.bc := rfl
@[simp] theorem busWrite_de (s : State) (a : Word) (v : Byte) : (s.busWrite a v).de = s.de := rfl
@[simp] theorem busWrite_hl (s : State) (a : Word) (v : Byte) : (s.busWrite a v).hl = s.hl := rfl
@[simp] theorem busWrite_sp (s : State) (a : Word) (v : Byte) : (s.busWrite a v).sp = s.sp := rfl
@[simp] theorem busWrite_pc (s : State) (a : Word) (v : Byte) : (s.busWrite a v).pc = s.pc := rfl
@[simp] theorem busWrite_cycles (s : State) (a : Word) (v : Byte) : (s.busWrite a v).cycles = s.cycles := rfl
@[simp] theorem busWrite_fault (s : State) (a : Word) (v : Byte) : (s.busWrite a v).fault = s.fault := rfl
@[simp] theorem busWrite_cartType (s : State) (a : Word) (v : Byte) : (s.busWrite a v).cartType = s.cartType := rfl
@[simp] theorem busWrite_ramSizeCode (s : State) (a : Word) (v : Byte) : (s.busWrite a v).ramSizeCode = s.ramSizeCode := rfl
@[simp] theorem busWrite_romSizeCode (s : State) (a : Word) (v : Byte) : (s.busWrite a v).romSizeCode = s.romSizeCode := rfl
@[simp] theorem busWrite_cartBuffer (s : State) (a : Word) (v : Byte) : (s.busWrite a v).cartBuffer = s.cartBuffer := rfl
@[simp] theorem busWrite_phase (s : State) (a : Word) (v : Byte) : (s.busWrite a v).phase = s.phase := rfl
@[simp] theorem busWrite_params (s : State) (a : Word) (v : Byte) : (s.busWrite a v).params = s.params := rfl

@[simp] theorem busWrite16_af (s : State) (a : Word) (v : Word) : (s.busWrite16 a v).af = s.af := rfl
@[simp] theorem busWrite16_bc (s : State) (a : Word) (v : Word) : (s.busWrite16 a v).bc = s.bc := rfl
@[simp] theorem busWrite16_de (s : State) (a : Word) (v : Word) : (s.busWrite16 a v).de = s.de := rfl
@[simp] theorem busWrite16_hl (s : State) (a : Word) (v : Word) : (s.busWrite16 a v).hl = s.hl := rfl
@[simp] theorem busWrite16_sp (s : State) (a : Word) (v : Word) : (s.busWrite16 a v).sp = s.sp := rfl
@[simp] theorem busWrite16_pc (s : State) (a : Word) (v : Word) : (s.busWrite16 a v).pc = s.pc := rfl
@[simp] theorem busWrite16_cycles (s : State) (a : Word) (v : Word) : (s.busWrite16 a v).cycles = s.cycles := rfl
@[simp] theorem busWrite16_fault (s : State) (a : Word) (v : Word) : (s.busWrite16 a v).fault = s.fault := rfl
@[simp] theorem busWrite16_cartType (s : State) (a : Word) (v : Word) : (s.busWrite16 a v).cartType = s.cartType := rfl
@[simp] theorem busWrite16_ramSizeCode (s : State) (a : Word) (v : Word) : (s.busWrite16 a v).ramSizeCode = s.ramSizeCode := rfl
@[simp] theorem busWrite16_romSizeCode (s : State) (a : Word) (v : Word) : (s.busWrite16 a v).romSizeCode = s.romSizeCode := rfl
@[simp] theorem busWrite16_cartBuffer (s : State) (a : Word) (v : Word) : (s.busWrite16 a v).cartBuffer = s.cartBuffer := rfl
@[simp] theorem busWrite16_phase (s : State) (a : Word) (v : Word) : (s.busWrite16 a v).phase = s.phase := rfl
@[simp] theorem busWrite16_params (s : State) (a : Word) (v : Word) : (s.busWrite16 a v).params = s.params := rfl

@[simp] theorem pointerPost_af (s : State) (p : Pointer) : (s.pointerPost p).af = s.af := by cases p <;> rfl
@[simp] theorem pointerPost_bc (s : State) (p : Pointer) : (s.pointerPost p).bc = s.bc := by cases p <;> rfl
@[simp] theorem pointerPost_de (s : State) (p : Pointer) : (s.pointerPost p).de = s.de := by cases p <;> rfl
@[simp] theorem pointerPost_sp (s : State) (p : Pointer) : (s.pointerPost p).sp = s.sp := by cases p <;> rfl
@[simp] theorem pointerPost_pc (s : State) (p : Pointer) : (s.pointerPost p).pc = s.pc := by cases p <;> rfl
@[simp] theorem pointerPost_mem (s : State) (p : Pointer) : (s.pointerPost p).mem = s.mem := by cases p <;> rfl
@[simp] theorem pointerPost_cycles (s : State) (p : Pointer) : (s.pointerPost p).cycles = s.cycles := by cases p <;> rfl
@[simp] theorem pointerPost_fault (s : State) (p : Pointer) : (s.pointerPost p).fault = s.fault := by cases p <;> rfl
@[simp] theorem pointerPost_cartType (s : State) (p : Pointer) : (s.pointerPost p).cartType = s.cartType := by cases p <;> rfl
@[simp] theorem pointerPost_ramSizeCode (s : State) (p : Pointer) : (s.pointerPost p).ramSizeCode = s.ramSizeCode := by cases p <;> rfl
@[simp] theorem pointerPost_romSizeCode (s : State) (p : Pointer) : (s.pointerPost p).romSizeCode = s.romSizeCode := by cases p <;> rfl
@[simp] theorem pointerPost_cartBuffer (s : State) (p : Pointer) : (s.pointerPost p).cartBuffer = s.cartBuffer := by cases p <;> rfl
@[simp] theorem pointerPost_phase (s : State) (p : Pointer) : (s.pointerPost p).phase = s.phase := by cases p <;> rfl
@[simp] theorem pointerPost_params (s : State) (p : Pointer) : (s.pointerPost p).params = s.params := by cases p <;> rfl

@[simp] theorem raiseUnknownOpcode_af (s : State) (op : Byte) : (s.raiseUnknownOpcode op).af = s.af := rfl
@[simp] theorem raiseUnknownOpcode_bc (s : State) (op : Byte) : (s.raiseUnknownOpcode op).bc = s.bc := rfl
@[simp] theorem raiseUnknownOpcode_de (s : State) (op : Byte) : (s.raiseUnknownOpcode op).de = s.de := rfl
@[simp] theorem raiseUnknownOpcode_hl (s : State) (op : Byte) : (s.raiseUnknownOpcode op).hl = s.hl := rfl
@[simp] theorem raiseUnknownOpcode_sp (s : State) (op : Byte) : (s.raiseUnknownOpcode op).sp = s.sp := rfl
@[simp] theorem raiseUnknownOpcode_pc (s : State) (op : Byte) : (s.raiseUnknownOpcode op).pc = s.pc := rfl
@[simp] theorem raiseUnknownOpcode_mem (s : State) (op : Byte) : (s.raiseUnknownOpcode op).mem = s.mem := rfl
@[simp] theorem raiseUnknownOpcode_cycles (s : State) (op : Byte) : (s.raiseUnknownOpcode op).cycles = s.cycles := rfl
@[simp] theorem raiseUnknownOpcode_cartType (s : State) (op : Byte) : (s.raiseUnknownOpcode op).cartType = s.cartType := rfl
@[simp] theorem raiseUnknownOpcode_ramSizeCode (s : State) (op : Byte) : (s.raiseUnknownOpcode op).ramSizeCode = s.ramSizeCode := rfl
@[simp] theorem raiseUnknownOpcode_romSizeCode (s : State) (op : Byte) : (s.raiseUnknownOpcode op).romSizeCode = s.romSizeCode := rfl
@[simp] theorem raiseUnknownOpcode_cartBuffer (s : State) (op : Byte) : (s.raiseUnknownOpcode op).cartBuffer = s.cartBuffer := rfl
@[simp] theorem raiseUnknownOpcode_phase (s : State) (op : Byte) : (s.raiseUnknownOpcode op).phase = s.phase := rfl
@[simp] theorem raiseUnknownOpcode_params (s : State) (op : Byte) : (s.raiseUnknownOpcode op).params = s.params := rfl

@[simp] theorem busWrite_mem (s : State) (a : Word) (v : Byte) : (s.busWrite a v).mem = Memory.write s.mem a.toNat v := rfl
@[simp] theorem raiseUnknownOpcode_fault (s : State) (op : Byte) :
    (s.raiseUnknownOpcode op).fault = some (s.faultRecord op) := rfl

/-! ## Registers -/

/-- A register selector names exactly one register (10_state.md R24). -/
theorem getReg8_setReg8 (s : State) (r r' : Reg8) (v : Byte) :
    (s.setReg8 r v).getReg8 r' = if r' = r then v else s.getReg8 r' := by
  cases r <;> cases r' <;>
    simp [setReg8, getReg8, setA, setB, setC, setD, setE, setH, setL, getA, getB, getC, getD, getE, getH, getL]

@[simp] theorem getReg8_a (s : State) : s.getReg8 .a = s.getA := rfl
@[simp] theorem getReg8_setF (s : State) (r : Reg8) (v : Byte) : (s.setF v).getReg8 r = s.getReg8 r := by
  cases r <;> simp [setF, getReg8, getA, getB, getC, getD, getE, getH, getL]
@[simp] theorem getF_setReg8 (s : State) (r : Reg8) (v : Byte) : (s.setReg8 r v).getF = s.getF := by
  cases r <;> simp [setReg8, getF, setA, setB, setC, setD, setE, setH, setL]
@[simp] theorem getF_setF (s : State) (v : Byte) : (s.setF v).getF = flagMask v := by simp [setF, getF]
@[simp] theorem getA_setF (s : State) (v : Byte) : (s.setF v).getA = s.getA := by simp [setF, getA]
@[simp] theorem getA_setA (s : State) (v : Byte) : (s.setA v).getA = v := by simp [setA, getA]
@[simp] theorem getF_setA (s : State) (v : Byte) : (s.setA v).getF = s.getF := by simp [setA, getF]
@[simp] theorem flags_setF (s : State) (f : Flags) : (s.setF f.toByte).flags = f := by simp [flags]
@[simp] theorem flags_setReg8 (s : State) (r : Reg8) (v : Byte) : (s.setReg8 r v).flags = s.flags := by simp [flags]

/-- A read of a 16-bit pair after a write of a pair, less POP AF's mask. -/
theorem getPairP_setPairP (s : State) (p p' : PairP) (v : Word) :
    (s.setPairP p v).getPairP p' = if p' = p then v else s.getPairP p' := by
  cases p <;> cases p' <;> simp [setPairP, getPairP]
/-- Writing AF masks F (10_state.md R27); the other pairs take the value whole. -/
theorem getPairQ_setPairQ (s : State) (q q' : PairQ) (v : Word) :
    (s.setPairQ q v).getPairQ q' =
      if q' = q then (if q = .af then join (hi v) (flagMask (lo v)) else v) else s.getPairQ q' := by
  cases q <;> cases q' <;> simp [setPairQ, getPairQ, setAF]

/-! ## The bus -/

/-- Read after write on the bus (20_memory.md R53). -/
theorem busRead_busWrite (s : State) (a b : Word) (v : Byte) :
    (s.busWrite a v).busRead b = if b = a then v else s.busRead b := by
  simp only [busRead, busWrite_mem, Memory.read_write, BitVec.toNat_inj]

@[simp] theorem busRead_withPc (s : State) (a v : Word) : (s.withPc v).busRead a = s.busRead a := rfl
@[simp] theorem busRead_withSp (s : State) (a v : Word) : (s.withSp v).busRead a = s.busRead a := rfl
@[simp] theorem busRead_withFault (s : State) (a : Word) (v : Option FaultRecord) :
    (s.withFault v).busRead a = s.busRead a := rfl
@[simp] theorem busRead_withPhase (s : State) (a : Word) (v : HostPhase) : (s.withPhase v).busRead a = s.busRead a := rfl
@[simp] theorem busRead_withCycles (s : State) (a : Word) (v : Nat) : (s.withCycles v).busRead a = s.busRead a := rfl
@[simp] theorem busRead_setReg8 (s : State) (a : Word) (r : Reg8) (v : Byte) :
    (s.setReg8 r v).busRead a = s.busRead a := by simp [busRead]
@[simp] theorem busRead_setF (s : State) (a : Word) (v : Byte) : (s.setF v).busRead a = s.busRead a := rfl

/-- A bus write keeps memory canonical. -/
theorem busWrite_wf (s : State) (a : Word) (v : Byte) (h : Memory.wf s.mem = true) :
    Memory.wf (s.busWrite a v).mem = true := Memory.write_wf s.mem a v h

/-- So does a word write. -/
theorem busWrite16_wf (s : State) (a v : Word) (h : Memory.wf s.mem = true) :
    Memory.wf (s.busWrite16 a v).mem = true := busWrite_wf _ _ _ (busWrite_wf _ _ _ h)

end State

end Sys2Proof.Machine
end

