-- ==== Sys2Proof/Laws/Exec.lean ====
section
/-! SUPPORT. What a meaning can do, said once: the 189 arms of `exec` are 25 effects, one per form. -/

namespace Sys2Proof.Machine

/-- The effect of a form on the state. -/
def effect : Form → State → State
  | .ldRR dst src, s => loadRegReg dst src s
  | .ldRHL dst, s => loadRegFromHL dst s
  | .ldHLR src, s => storeRegAtHL src s
  | .ldRN dst n, s => loadRegImm dst n s
  | .ldHLN n, s => storeImmAtHL n s
  | .ldAInd p, s => loadAccIndirect p s
  | .ldIndA p, s => storeAccIndirect p s
  | .ldNNA nn, s => storeAccAbsolute nn s
  | .ldANN nn, s => loadAccAbsolute nn s
  | .ldhNA n, s => storeAccHighPage n s
  | .ldhAN n, s => loadAccHighPage n s
  | .ldCA, s => storeAccHighPage s.getC s
  | .ldAC, s => loadAccHighPage s.getC s
  | .ldPairNN p nn, s => loadPairImm p nn s
  | .ldNNSP nn, s => storeSPAbsolute nn s
  | .ldSPHL, s => loadSPFromHL s
  | .push q, s => pushPair q s
  | .pop q, s => popPair q s
  | .alu o x, s => aluInstr o x s
  | .incR r, s => incReg r s
  | .incHL, s => incAtHL s
  | .decR r, s => decReg r s
  | .decHL, s => decAtHL s
  | .jp nn, s => jumpTo nn s
  | .unknown op, s => s.raiseUnknownOpcode op

/-- Every meaning answers a next state: the effect of its instruction's form. -/
theorem exec_eq_effect (i : Instr) (s : State) : exec i s = .next (effect i.form s) := by
  cases i <;> rfl

/-! ## What no effect touches -/

theorem aluInstr_cycles (o : AluOp) (x : AluSrc) (s : State) : (aluInstr o x s).cycles = s.cycles := by
  unfold aluInstr; dsimp only; split <;> rfl

/-- An ALU instruction writes AF and nothing else. -/
theorem aluInstr_only_af (o : AluOp) (x : AluSrc) (s : State) : aluInstr o x s = s.withAf (aluInstr o x s).af := by
  unfold aluInstr; dsimp only; split <;> rfl

/-- No meaning touches the cycle counter, the cartridge, the host's phase or the parameters (10_state.md R33, R35, R36). -/
theorem effect_untouched (f : Form) (s : State) :
    (effect f s).cycles = s.cycles ∧ (effect f s).cartType = s.cartType ∧ (effect f s).ramSizeCode = s.ramSizeCode ∧
    (effect f s).romSizeCode = s.romSizeCode ∧ (effect f s).cartBuffer = s.cartBuffer ∧ (effect f s).phase = s.phase ∧
    (effect f s).params = s.params := by
  cases f with
  | alu o x => rw [effect, aluInstr_only_af]; simp
  | _ => simp [effect, loadRegReg, loadRegFromHL, storeRegAtHL, loadRegImm, storeImmAtHL, loadAccIndirect, storeAccIndirect,
      storeAccAbsolute, loadAccAbsolute, storeAccHighPage, loadAccHighPage, loadPairImm, storeSPAbsolute, loadSPFromHL,
      pushPair, popPair, incReg, incAtHL, decReg, decAtHL, jumpTo]

/-- Only the jump writes the pc (30_encoding.md R100). -/
theorem effect_pc (f : Form) (s : State) : (effect f s).pc = (match f with | .jp nn => nn | _ => s.pc) := by
  cases f with
  | alu o x => rw [effect, aluInstr_only_af]; simp
  | _ => simp [effect, loadRegReg, loadRegFromHL, storeRegAtHL, loadRegImm, storeImmAtHL, loadAccIndirect, storeAccIndirect,
      storeAccAbsolute, loadAccAbsolute, storeAccHighPage, loadAccHighPage, loadPairImm, storeSPAbsolute, loadSPFromHL,
      pushPair, popPair, incReg, incAtHL, decReg, decAtHL, jumpTo]

/-- Only an unknown opcode writes the fault latch (10_state.md R34). -/
theorem effect_fault (f : Form) (s : State) :
    (effect f s).fault = (match f with | .unknown op => some (s.faultRecord op) | _ => s.fault) := by
  cases f with
  | alu o x => rw [effect, aluInstr_only_af]; simp
  | _ => simp [effect, loadRegReg, loadRegFromHL, storeRegAtHL, loadRegImm, storeImmAtHL, loadAccIndirect, storeAccIndirect,
      storeAccAbsolute, loadAccAbsolute, storeAccHighPage, loadAccHighPage, loadPairImm, storeSPAbsolute, loadSPFromHL,
      pushPair, popPair, incReg, incAtHL, decReg, decAtHL, jumpTo]

end Sys2Proof.Machine
end

