-- ==== Sys2Proof/Laws/PerInstr.lean ====
section
/-! SUPPORT. Statements made for every instruction, one lemma per constructor. -/

namespace Sys2Proof.Laws.EncodedLength

/-- The words of a well-formed instruction are as many bytes as its opcode byte alone says (30_encoding.md R92). -/
def Statement (i : Instr) : Prop :=
  i.wellFormed = true → ∀ op, (encode i).head? = some op → (encode i).length = instrLen op

theorem ld_b_b : Statement (.ld_b_b) := by
  rintro - op ⟨⟩; rfl
theorem ld_b_c : Statement (.ld_b_c) := by
  rintro - op ⟨⟩; rfl
theorem ld_b_d : Statement (.ld_b_d) := by
  rintro - op ⟨⟩; rfl
theorem ld_b_e : Statement (.ld_b_e) := by
  rintro - op ⟨⟩; rfl
theorem ld_b_h : Statement (.ld_b_h) := by
  rintro - op ⟨⟩; rfl
theorem ld_b_l : Statement (.ld_b_l) := by
  rintro - op ⟨⟩; rfl
theorem ld_b_a : Statement (.ld_b_a) := by
  rintro - op ⟨⟩; rfl
theorem ld_c_b : Statement (.ld_c_b) := by
  rintro - op ⟨⟩; rfl
theorem ld_c_c : Statement (.ld_c_c) := by
  rintro - op ⟨⟩; rfl
theorem ld_c_d : Statement (.ld_c_d) := by
  rintro - op ⟨⟩; rfl
theorem ld_c_e : Statement (.ld_c_e) := by
  rintro - op ⟨⟩; rfl
theorem ld_c_h : Statement (.ld_c_h) := by
  rintro - op ⟨⟩; rfl
theorem ld_c_l : Statement (.ld_c_l) := by
  rintro - op ⟨⟩; rfl
theorem ld_c_a : Statement (.ld_c_a) := by
  rintro - op ⟨⟩; rfl
theorem ld_d_b : Statement (.ld_d_b) := by
  rintro - op ⟨⟩; rfl
theorem ld_d_c : Statement (.ld_d_c) := by
  rintro - op ⟨⟩; rfl
theorem ld_d_d : Statement (.ld_d_d) := by
  rintro - op ⟨⟩; rfl
theorem ld_d_e : Statement (.ld_d_e) := by
  rintro - op ⟨⟩; rfl
theorem ld_d_h : Statement (.ld_d_h) := by
  rintro - op ⟨⟩; rfl
theorem ld_d_l : Statement (.ld_d_l) := by
  rintro - op ⟨⟩; rfl
theorem ld_d_a : Statement (.ld_d_a) := by
  rintro - op ⟨⟩; rfl
theorem ld_e_b : Statement (.ld_e_b) := by
  rintro - op ⟨⟩; rfl
theorem ld_e_c : Statement (.ld_e_c) := by
  rintro - op ⟨⟩; rfl
theorem ld_e_d : Statement (.ld_e_d) := by
  rintro - op ⟨⟩; rfl
theorem ld_e_e : Statement (.ld_e_e) := by
  rintro - op ⟨⟩; rfl
theorem ld_e_h : Statement (.ld_e_h) := by
  rintro - op ⟨⟩; rfl
theorem ld_e_l : Statement (.ld_e_l) := by
  rintro - op ⟨⟩; rfl
theorem ld_e_a : Statement (.ld_e_a) := by
  rintro - op ⟨⟩; rfl
theorem ld_h_b : Statement (.ld_h_b) := by
  rintro - op ⟨⟩; rfl
theorem ld_h_c : Statement (.ld_h_c) := by
  rintro - op ⟨⟩; rfl
theorem ld_h_d : Statement (.ld_h_d) := by
  rintro - op ⟨⟩; rfl
theorem ld_h_e : Statement (.ld_h_e) := by
  rintro - op ⟨⟩; rfl
theorem ld_h_h : Statement (.ld_h_h) := by
  rintro - op ⟨⟩; rfl
theorem ld_h_l : Statement (.ld_h_l) := by
  rintro - op ⟨⟩; rfl
theorem ld_h_a : Statement (.ld_h_a) := by
  rintro - op ⟨⟩; rfl
theorem ld_l_b : Statement (.ld_l_b) := by
  rintro - op ⟨⟩; rfl
theorem ld_l_c : Statement (.ld_l_c) := by
  rintro - op ⟨⟩; rfl
theorem ld_l_d : Statement (.ld_l_d) := by
  rintro - op ⟨⟩; rfl
theorem ld_l_e : Statement (.ld_l_e) := by
  rintro - op ⟨⟩; rfl
theorem ld_l_h : Statement (.ld_l_h) := by
  rintro - op ⟨⟩; rfl
theorem ld_l_l : Statement (.ld_l_l) := by
  rintro - op ⟨⟩; rfl
theorem ld_l_a : Statement (.ld_l_a) := by
  rintro - op ⟨⟩; rfl
theorem ld_a_b : Statement (.ld_a_b) := by
  rintro - op ⟨⟩; rfl
theorem ld_a_c : Statement (.ld_a_c) := by
  rintro - op ⟨⟩; rfl
theorem ld_a_d : Statement (.ld_a_d) := by
  rintro - op ⟨⟩; rfl
theorem ld_a_e : Statement (.ld_a_e) := by
  rintro - op ⟨⟩; rfl
theorem ld_a_h : Statement (.ld_a_h) := by
  rintro - op ⟨⟩; rfl
theorem ld_a_l : Statement (.ld_a_l) := by
  rintro - op ⟨⟩; rfl
theorem ld_a_a : Statement (.ld_a_a) := by
  rintro - op ⟨⟩; rfl
theorem ld_b_atHL : Statement (.ld_b_atHL) := by
  rintro - op ⟨⟩; rfl
theorem ld_c_atHL : Statement (.ld_c_atHL) := by
  rintro - op ⟨⟩; rfl
theorem ld_d_atHL : Statement (.ld_d_atHL) := by
  rintro - op ⟨⟩; rfl
theorem ld_e_atHL : Statement (.ld_e_atHL) := by
  rintro - op ⟨⟩; rfl
theorem ld_h_atHL : Statement (.ld_h_atHL) := by
  rintro - op ⟨⟩; rfl
theorem ld_l_atHL : Statement (.ld_l_atHL) := by
  rintro - op ⟨⟩; rfl
theorem ld_atHL_b : Statement (.ld_atHL_b) := by
  rintro - op ⟨⟩; rfl
theorem ld_atHL_c : Statement (.ld_atHL_c) := by
  rintro - op ⟨⟩; rfl
theorem ld_atHL_d : Statement (.ld_atHL_d) := by
  rintro - op ⟨⟩; rfl
theorem ld_atHL_e : Statement (.ld_atHL_e) := by
  rintro - op ⟨⟩; rfl
theorem ld_atHL_h : Statement (.ld_atHL_h) := by
  rintro - op ⟨⟩; rfl
theorem ld_atHL_l : Statement (.ld_atHL_l) := by
  rintro - op ⟨⟩; rfl
theorem ld_atHL_a : Statement (.ld_atHL_a) := by
  rintro - op ⟨⟩; rfl
theorem ld_a_atHL : Statement (.ld_a_atHL) := by
  rintro - op ⟨⟩; rfl
theorem ld_b_n (n : Byte) : Statement (.ld_b_n n) := by
  rintro - op ⟨⟩; rfl
theorem ld_c_n (n : Byte) : Statement (.ld_c_n n) := by
  rintro - op ⟨⟩; rfl
theorem ld_d_n (n : Byte) : Statement (.ld_d_n n) := by
  rintro - op ⟨⟩; rfl
theorem ld_e_n (n : Byte) : Statement (.ld_e_n n) := by
  rintro - op ⟨⟩; rfl
theorem ld_h_n (n : Byte) : Statement (.ld_h_n n) := by
  rintro - op ⟨⟩; rfl
theorem ld_l_n (n : Byte) : Statement (.ld_l_n n) := by
  rintro - op ⟨⟩; rfl
theorem ld_atHL_n (n : Byte) : Statement (.ld_atHL_n n) := by
  rintro - op ⟨⟩; rfl
theorem ld_a_n (n : Byte) : Statement (.ld_a_n n) := by
  rintro - op ⟨⟩; rfl
theorem ld_atBC_a : Statement (.ld_atBC_a) := by
  rintro - op ⟨⟩; rfl
theorem ld_a_atBC : Statement (.ld_a_atBC) := by
  rintro - op ⟨⟩; rfl
theorem ld_atDE_a : Statement (.ld_atDE_a) := by
  rintro - op ⟨⟩; rfl
theorem ld_a_atDE : Statement (.ld_a_atDE) := by
  rintro - op ⟨⟩; rfl
theorem ld_atHLinc_a : Statement (.ld_atHLinc_a) := by
  rintro - op ⟨⟩; rfl
theorem ld_a_atHLinc : Statement (.ld_a_atHLinc) := by
  rintro - op ⟨⟩; rfl
theorem ld_atHLdec_a : Statement (.ld_atHLdec_a) := by
  rintro - op ⟨⟩; rfl
theorem ld_a_atHLdec : Statement (.ld_a_atHLdec) := by
  rintro - op ⟨⟩; rfl
theorem ldh_atN_a (n : Byte) : Statement (.ldh_atN_a n) := by
  rintro - op ⟨⟩; rfl
theorem ld_atC_a : Statement (.ld_atC_a) := by
  rintro - op ⟨⟩; rfl
theorem ld_atNN_a (nn : Word) : Statement (.ld_atNN_a nn) := by
  rintro - op ⟨⟩; rfl
theorem ldh_a_atN (n : Byte) : Statement (.ldh_a_atN n) := by
  rintro - op ⟨⟩; rfl
theorem ld_a_atC : Statement (.ld_a_atC) := by
  rintro - op ⟨⟩; rfl
theorem ld_a_atNN (nn : Word) : Statement (.ld_a_atNN nn) := by
  rintro - op ⟨⟩; rfl
theorem ld_bc_nn (nn : Word) : Statement (.ld_bc_nn nn) := by
  rintro - op ⟨⟩; rfl
theorem ld_atNN_sp (nn : Word) : Statement (.ld_atNN_sp nn) := by
  rintro - op ⟨⟩; rfl
theorem ld_de_nn (nn : Word) : Statement (.ld_de_nn nn) := by
  rintro - op ⟨⟩; rfl
theorem ld_hl_nn (nn : Word) : Statement (.ld_hl_nn nn) := by
  rintro - op ⟨⟩; rfl
theorem ld_sp_nn (nn : Word) : Statement (.ld_sp_nn nn) := by
  rintro - op ⟨⟩; rfl
theorem ld_sp_hl : Statement (.ld_sp_hl) := by
  rintro - op ⟨⟩; rfl
theorem pop_bc : Statement (.pop_bc) := by
  rintro - op ⟨⟩; rfl
theorem push_bc : Statement (.push_bc) := by
  rintro - op ⟨⟩; rfl
theorem pop_de : Statement (.pop_de) := by
  rintro - op ⟨⟩; rfl
theorem push_de : Statement (.push_de) := by
  rintro - op ⟨⟩; rfl
theorem pop_hl : Statement (.pop_hl) := by
  rintro - op ⟨⟩; rfl
theorem push_hl : Statement (.push_hl) := by
  rintro - op ⟨⟩; rfl
theorem pop_af : Statement (.pop_af) := by
  rintro - op ⟨⟩; rfl
theorem push_af : Statement (.push_af) := by
  rintro - op ⟨⟩; rfl
theorem add_a_b : Statement (.add_a_b) := by
  rintro - op ⟨⟩; rfl
theorem add_a_c : Statement (.add_a_c) := by
  rintro - op ⟨⟩; rfl
theorem add_a_d : Statement (.add_a_d) := by
  rintro - op ⟨⟩; rfl
theorem add_a_e : Statement (.add_a_e) := by
  rintro - op ⟨⟩; rfl
theorem add_a_h : Statement (.add_a_h) := by
  rintro - op ⟨⟩; rfl
theorem add_a_l : Statement (.add_a_l) := by
  rintro - op ⟨⟩; rfl
theorem add_a_atHL : Statement (.add_a_atHL) := by
  rintro - op ⟨⟩; rfl
theorem add_a_a : Statement (.add_a_a) := by
  rintro - op ⟨⟩; rfl
theorem add_a_n (n : Byte) : Statement (.add_a_n n) := by
  rintro - op ⟨⟩; rfl
theorem adc_a_b : Statement (.adc_a_b) := by
  rintro - op ⟨⟩; rfl
theorem adc_a_c : Statement (.adc_a_c) := by
  rintro - op ⟨⟩; rfl
theorem adc_a_d : Statement (.adc_a_d) := by
  rintro - op ⟨⟩; rfl
theorem adc_a_e : Statement (.adc_a_e) := by
  rintro - op ⟨⟩; rfl
theorem adc_a_h : Statement (.adc_a_h) := by
  rintro - op ⟨⟩; rfl
theorem adc_a_l : Statement (.adc_a_l) := by
  rintro - op ⟨⟩; rfl
theorem adc_a_atHL : Statement (.adc_a_atHL) := by
  rintro - op ⟨⟩; rfl
theorem adc_a_a : Statement (.adc_a_a) := by
  rintro - op ⟨⟩; rfl
theorem adc_a_n (n : Byte) : Statement (.adc_a_n n) := by
  rintro - op ⟨⟩; rfl
theorem sub_b : Statement (.sub_b) := by
  rintro - op ⟨⟩; rfl
theorem sub_c : Statement (.sub_c) := by
  rintro - op ⟨⟩; rfl
theorem sub_d : Statement (.sub_d) := by
  rintro - op ⟨⟩; rfl
theorem sub_e : Statement (.sub_e) := by
  rintro - op ⟨⟩; rfl
theorem sub_h : Statement (.sub_h) := by
  rintro - op ⟨⟩; rfl
theorem sub_l : Statement (.sub_l) := by
  rintro - op ⟨⟩; rfl
theorem sub_atHL : Statement (.sub_atHL) := by
  rintro - op ⟨⟩; rfl
theorem sub_a : Statement (.sub_a) := by
  rintro - op ⟨⟩; rfl
theorem sub_n (n : Byte) : Statement (.sub_n n) := by
  rintro - op ⟨⟩; rfl
theorem sbc_a_b : Statement (.sbc_a_b) := by
  rintro - op ⟨⟩; rfl
theorem sbc_a_c : Statement (.sbc_a_c) := by
  rintro - op ⟨⟩; rfl
theorem sbc_a_d : Statement (.sbc_a_d) := by
  rintro - op ⟨⟩; rfl
theorem sbc_a_e : Statement (.sbc_a_e) := by
  rintro - op ⟨⟩; rfl
theorem sbc_a_h : Statement (.sbc_a_h) := by
  rintro - op ⟨⟩; rfl
theorem sbc_a_l : Statement (.sbc_a_l) := by
  rintro - op ⟨⟩; rfl
theorem sbc_a_atHL : Statement (.sbc_a_atHL) := by
  rintro - op ⟨⟩; rfl
theorem sbc_a_a : Statement (.sbc_a_a) := by
  rintro - op ⟨⟩; rfl
theorem sbc_a_n (n : Byte) : Statement (.sbc_a_n n) := by
  rintro - op ⟨⟩; rfl
theorem and_b : Statement (.and_b) := by
  rintro - op ⟨⟩; rfl
theorem and_c : Statement (.and_c) := by
  rintro - op ⟨⟩; rfl
theorem and_d : Statement (.and_d) := by
  rintro - op ⟨⟩; rfl
theorem and_e : Statement (.and_e) := by
  rintro - op ⟨⟩; rfl
theorem and_h : Statement (.and_h) := by
  rintro - op ⟨⟩; rfl
theorem and_l : Statement (.and_l) := by
  rintro - op ⟨⟩; rfl
theorem and_atHL : Statement (.and_atHL) := by
  rintro - op ⟨⟩; rfl
theorem and_a : Statement (.and_a) := by
  rintro - op ⟨⟩; rfl
theorem and_n (n : Byte) : Statement (.and_n n) := by
  rintro - op ⟨⟩; rfl
theorem xor_b : Statement (.xor_b) := by
  rintro - op ⟨⟩; rfl
theorem xor_c : Statement (.xor_c) := by
  rintro - op ⟨⟩; rfl
theorem xor_d : Statement (.xor_d) := by
  rintro - op ⟨⟩; rfl
theorem xor_e : Statement (.xor_e) := by
  rintro - op ⟨⟩; rfl
theorem xor_h : Statement (.xor_h) := by
  rintro - op ⟨⟩; rfl
theorem xor_l : Statement (.xor_l) := by
  rintro - op ⟨⟩; rfl
theorem xor_atHL : Statement (.xor_atHL) := by
  rintro - op ⟨⟩; rfl
theorem xor_a : Statement (.xor_a) := by
  rintro - op ⟨⟩; rfl
theorem xor_n (n : Byte) : Statement (.xor_n n) := by
  rintro - op ⟨⟩; rfl
theorem or_b : Statement (.or_b) := by
  rintro - op ⟨⟩; rfl
theorem or_c : Statement (.or_c) := by
  rintro - op ⟨⟩; rfl
theorem or_d : Statement (.or_d) := by
  rintro - op ⟨⟩; rfl
theorem or_e : Statement (.or_e) := by
  rintro - op ⟨⟩; rfl
theorem or_h : Statement (.or_h) := by
  rintro - op ⟨⟩; rfl
theorem or_l : Statement (.or_l) := by
  rintro - op ⟨⟩; rfl
theorem or_atHL : Statement (.or_atHL) := by
  rintro - op ⟨⟩; rfl
theorem or_a : Statement (.or_a) := by
  rintro - op ⟨⟩; rfl
theorem or_n (n : Byte) : Statement (.or_n n) := by
  rintro - op ⟨⟩; rfl
theorem cp_b : Statement (.cp_b) := by
  rintro - op ⟨⟩; rfl
theorem cp_c : Statement (.cp_c) := by
  rintro - op ⟨⟩; rfl
theorem cp_d : Statement (.cp_d) := by
  rintro - op ⟨⟩; rfl
theorem cp_e : Statement (.cp_e) := by
  rintro - op ⟨⟩; rfl
theorem cp_h : Statement (.cp_h) := by
  rintro - op ⟨⟩; rfl
theorem cp_l : Statement (.cp_l) := by
  rintro - op ⟨⟩; rfl
theorem cp_atHL : Statement (.cp_atHL) := by
  rintro - op ⟨⟩; rfl
theorem cp_a : Statement (.cp_a) := by
  rintro - op ⟨⟩; rfl
theorem cp_n (n : Byte) : Statement (.cp_n n) := by
  rintro - op ⟨⟩; rfl
theorem inc_b : Statement (.inc_b) := by
  rintro - op ⟨⟩; rfl
theorem dec_b : Statement (.dec_b) := by
  rintro - op ⟨⟩; rfl
theorem inc_c : Statement (.inc_c) := by
  rintro - op ⟨⟩; rfl
theorem dec_c : Statement (.dec_c) := by
  rintro - op ⟨⟩; rfl
theorem inc_d : Statement (.inc_d) := by
  rintro - op ⟨⟩; rfl
theorem dec_d : Statement (.dec_d) := by
  rintro - op ⟨⟩; rfl
theorem inc_e : Statement (.inc_e) := by
  rintro - op ⟨⟩; rfl
theorem dec_e : Statement (.dec_e) := by
  rintro - op ⟨⟩; rfl
theorem inc_h : Statement (.inc_h) := by
  rintro - op ⟨⟩; rfl
theorem dec_h : Statement (.dec_h) := by
  rintro - op ⟨⟩; rfl
theorem inc_l : Statement (.inc_l) := by
  rintro - op ⟨⟩; rfl
theorem dec_l : Statement (.dec_l) := by
  rintro - op ⟨⟩; rfl
theorem inc_atHL : Statement (.inc_atHL) := by
  rintro - op ⟨⟩; rfl
theorem dec_atHL : Statement (.dec_atHL) := by
  rintro - op ⟨⟩; rfl
theorem inc_a : Statement (.inc_a) := by
  rintro - op ⟨⟩; rfl
theorem dec_a : Statement (.dec_a) := by
  rintro - op ⟨⟩; rfl
theorem jp_nn (nn : Word) : Statement (.jp_nn nn) := by
  rintro - op ⟨⟩; rfl

theorem unknown (op : Byte) : Statement (.unknown op) := by
  rintro hwf op' ⟨⟩
  revert op
  decide

end Sys2Proof.Laws.EncodedLength
end

