-- ==== Sys2Proof/Laws/Step.lean ====
section
/-! SUPPORT. What fetching and a step can do, said once. -/

namespace Sys2Proof.Machine

namespace State

/-! ## The sequencer -/

/-- The fetch is the decoder's reading of the bytes at the pc. -/
theorem fetchInstr_of_decode {s : State} {i : Instr} {rest : List Byte}
    (h : decode [s.busRead s.pc, s.busRead (s.pc + 1), s.busRead (s.pc + 2)] = .ok (i, rest)) : s.fetchInstr = i := by
  simp only [decode] at h
  unfold fetchInstr opcode imm8 imm16
  cases hr : romEntry (s.busRead s.pc) <;> simp_all

@[simp] theorem retire_cycles (s : State) (op : Byte) : (s.retire op).cycles = s.cycles + s.params.cycleCost op := rfl
@[simp] theorem retire_pc (s : State) (op : Byte) :
    (s.retire op).pc = if op = 0xC3 then s.pc else s.pc + BitVec.ofNat 16 (instrLen op) := rfl

/-- A step that completes is retired, and one that faults is left as it is; both mark the host's phase. -/
theorem finish_of_live {s : State} (h : s.fault = none) (op : Byte) : s.finish op = (s.retire op).withPhase .running := by
  simp [finish, h]
theorem finish_of_fault {s : State} {r : FaultRecord} (h : s.fault = some r) (op : Byte) :
    s.finish op = s.withPhase .running := by
  simp [finish, h]

end State

/-! ## The step -/

/-- With the fault latch set there is no step (30_encoding.md R102). -/
theorem step_of_faulted {s : State} {r : FaultRecord} (h : s.fault = some r) : step s = .fault .blockFaulted := by
  simp [step, h]

/-- Without it the step runs the effect of the fetched instruction and finishes. -/
theorem step_of_live {s : State} (h : s.fault = none) :
    step s = .next ((effect s.fetchInstr.form s).finish s.opcode) := by
  simp [step, h, exec_eq_effect]

/-- Everything a step that answers a next state did. -/
theorem step_cases {s t : State} (h : step s = .next t) :
    s.fault = none ∧ t = (effect s.fetchInstr.form s).finish s.opcode := by
  cases hf : s.fault with
  | some r => rw [step_of_faulted hf] at h; cases h
  | none =>
    rw [step_of_live hf] at h
    exact ⟨rfl, by simpa using h.symm⟩

end Sys2Proof.Machine
end

