-- ==== Sys2Proof/Tests/Slice0.lean ====
section
/-! SUPPORT. Tests of the model: the well-formedness smoke, the decoding of every constructor, single steps from the vectors of
95_test_vectors.md, and for every obligation with hypotheses a state and operands that meet them. Expected values come from the spec. -/

namespace Sys2Proof.Tests

open Sys2Proof Sys2Proof.Machine Sys2Proof.Claims

/-! ## Well-formedness -/

/-- The one check: `unknown` holds only the opcodes of 30_encoding.md R93. 0x40 is `LD B,B`. -/
theorem test_wellFormed_refuses_unknown_of_a_handled_opcode : (Instr.unknown 0x40).wellFormed = false := by decide

theorem test_wellFormed_accepts_unknown_of_the_68 :
    unknownOpcodes.length = 68 ∧ (unknownOpcodes.all fun op => (Instr.unknown op).wellFormed) = true := by decide +kernel

/-! ## Decoding, by words written out from the spec -/

/-- The bytes decode to the instruction with nothing left over, and the instruction encodes to them. -/
def decodesTo (bytes : List Byte) (i : Instr) : Bool :=
  match decode bytes with
  | .ok (j, rest) => (j == i) && rest.isEmpty && (encode i == bytes)
  | .error _ => false

def allDecode (pairs : List (List Byte × Instr)) : Bool := pairs.all fun p => decodesTo p.1 p.2

/-- the 16-bit loads: each word written out from its pattern in 30_encoding.md R88. -/
theorem test_decode_ld16 :
    allDecode [([0b00000001, 0x34, 0x12], .ld_bc_nn 0x1234), ([0b00001000, 0x34, 0x12], .ld_atNN_sp 0x1234), ([0b00010001, 0x34, 0x12], .ld_de_nn 0x1234),
     ([0b00100001, 0x34, 0x12], .ld_hl_nn 0x1234), ([0b00110001, 0x34, 0x12], .ld_sp_nn 0x1234), ([0b11111001], .ld_sp_hl)] = true := by decide +kernel

/-- the accumulator loads and stores: each word written out from its pattern in 30_encoding.md R88. -/
theorem test_decode_ld_acc :
    allDecode [([0b00000010], .ld_atBC_a), ([0b00001010], .ld_a_atBC), ([0b00010010], .ld_atDE_a),
     ([0b00011010], .ld_a_atDE), ([0b00100010], .ld_atHLinc_a), ([0b00101010], .ld_a_atHLinc),
     ([0b00110010], .ld_atHLdec_a), ([0b00111010], .ld_a_atHLdec), ([0b11100000, 0xA7], .ldh_atN_a 0xA7),
     ([0b11100010], .ld_atC_a), ([0b11101010, 0x34, 0x12], .ld_atNN_a 0x1234), ([0b11110000, 0xA7], .ldh_a_atN 0xA7),
     ([0b11110010], .ld_a_atC), ([0b11111010, 0x34, 0x12], .ld_a_atNN 0x1234)] = true := by decide +kernel

/-- INC and DEC: each word written out from its pattern in 30_encoding.md R88. -/
theorem test_decode_incdec :
    allDecode [([0b00000100], .inc_b), ([0b00000101], .dec_b), ([0b00001100], .inc_c),
     ([0b00001101], .dec_c), ([0b00010100], .inc_d), ([0b00010101], .dec_d),
     ([0b00011100], .inc_e), ([0b00011101], .dec_e), ([0b00100100], .inc_h),
     ([0b00100101], .dec_h), ([0b00101100], .inc_l), ([0b00101101], .dec_l),
     ([0b00110100], .inc_atHL), ([0b00110101], .dec_atHL), ([0b00111100], .inc_a),
     ([0b00111101], .dec_a)] = true := by decide +kernel

/-- LD r,n and LD (HL),n: each word written out from its pattern in 30_encoding.md R88. -/
theorem test_decode_ld_imm :
    allDecode [([0b00000110, 0xA7], .ld_b_n 0xA7), ([0b00001110, 0xA7], .ld_c_n 0xA7), ([0b00010110, 0xA7], .ld_d_n 0xA7),
     ([0b00011110, 0xA7], .ld_e_n 0xA7), ([0b00100110, 0xA7], .ld_h_n 0xA7), ([0b00101110, 0xA7], .ld_l_n 0xA7),
     ([0b00110110, 0xA7], .ld_atHL_n 0xA7), ([0b00111110, 0xA7], .ld_a_n 0xA7)] = true := by decide +kernel

/-- LD r,r' (01 ddd sss): each word written out from its pattern in 30_encoding.md R88. -/
theorem test_decode_ld_rr :
    allDecode [([0b01000000], .ld_b_b), ([0b01000001], .ld_b_c), ([0b01000010], .ld_b_d),
     ([0b01000011], .ld_b_e), ([0b01000100], .ld_b_h), ([0b01000101], .ld_b_l),
     ([0b01000111], .ld_b_a), ([0b01001000], .ld_c_b), ([0b01001001], .ld_c_c),
     ([0b01001010], .ld_c_d), ([0b01001011], .ld_c_e), ([0b01001100], .ld_c_h),
     ([0b01001101], .ld_c_l), ([0b01001111], .ld_c_a), ([0b01010000], .ld_d_b),
     ([0b01010001], .ld_d_c), ([0b01010010], .ld_d_d), ([0b01010011], .ld_d_e),
     ([0b01010100], .ld_d_h), ([0b01010101], .ld_d_l), ([0b01010111], .ld_d_a),
     ([0b01011000], .ld_e_b), ([0b01011001], .ld_e_c), ([0b01011010], .ld_e_d)] = true ∧
    allDecode [([0b01011011], .ld_e_e), ([0b01011100], .ld_e_h), ([0b01011101], .ld_e_l),
     ([0b01011111], .ld_e_a), ([0b01100000], .ld_h_b), ([0b01100001], .ld_h_c),
     ([0b01100010], .ld_h_d), ([0b01100011], .ld_h_e), ([0b01100100], .ld_h_h),
     ([0b01100101], .ld_h_l), ([0b01100111], .ld_h_a), ([0b01101000], .ld_l_b),
     ([0b01101001], .ld_l_c), ([0b01101010], .ld_l_d), ([0b01101011], .ld_l_e),
     ([0b01101100], .ld_l_h), ([0b01101101], .ld_l_l), ([0b01101111], .ld_l_a),
     ([0b01111000], .ld_a_b), ([0b01111001], .ld_a_c), ([0b01111010], .ld_a_d),
     ([0b01111011], .ld_a_e), ([0b01111100], .ld_a_h), ([0b01111101], .ld_a_l)] = true ∧
    allDecode [([0b01111111], .ld_a_a)] = true := by decide +kernel

/-- LD r,(HL) and LD (HL),r: each word written out from its pattern in 30_encoding.md R88. -/
theorem test_decode_ld_atHL :
    allDecode [([0b01000110], .ld_b_atHL), ([0b01001110], .ld_c_atHL), ([0b01010110], .ld_d_atHL),
     ([0b01011110], .ld_e_atHL), ([0b01100110], .ld_h_atHL), ([0b01101110], .ld_l_atHL),
     ([0b01110000], .ld_atHL_b), ([0b01110001], .ld_atHL_c), ([0b01110010], .ld_atHL_d),
     ([0b01110011], .ld_atHL_e), ([0b01110100], .ld_atHL_h), ([0b01110101], .ld_atHL_l),
     ([0b01110111], .ld_atHL_a), ([0b01111110], .ld_a_atHL)] = true := by decide +kernel

/-- ADD: each word written out from its pattern in 30_encoding.md R88. -/
theorem test_decode_alu_add :
    allDecode [([0b10000000], .add_a_b), ([0b10000001], .add_a_c), ([0b10000010], .add_a_d),
     ([0b10000011], .add_a_e), ([0b10000100], .add_a_h), ([0b10000101], .add_a_l),
     ([0b10000110], .add_a_atHL), ([0b10000111], .add_a_a), ([0b11000110, 0xA7], .add_a_n 0xA7)] = true := by decide +kernel

/-- ADC: each word written out from its pattern in 30_encoding.md R88. -/
theorem test_decode_alu_adc :
    allDecode [([0b10001000], .adc_a_b), ([0b10001001], .adc_a_c), ([0b10001010], .adc_a_d),
     ([0b10001011], .adc_a_e), ([0b10001100], .adc_a_h), ([0b10001101], .adc_a_l),
     ([0b10001110], .adc_a_atHL), ([0b10001111], .adc_a_a), ([0b11001110, 0xA7], .adc_a_n 0xA7)] = true := by decide +kernel

/-- SUB: each word written out from its pattern in 30_encoding.md R88. -/
theorem test_decode_alu_sub :
    allDecode [([0b10010000], .sub_b), ([0b10010001], .sub_c), ([0b10010010], .sub_d),
     ([0b10010011], .sub_e), ([0b10010100], .sub_h), ([0b10010101], .sub_l),
     ([0b10010110], .sub_atHL), ([0b10010111], .sub_a), ([0b11010110, 0xA7], .sub_n 0xA7)] = true := by decide +kernel

/-- SBC: each word written out from its pattern in 30_encoding.md R88. -/
theorem test_decode_alu_sbc :
    allDecode [([0b10011000], .sbc_a_b), ([0b10011001], .sbc_a_c), ([0b10011010], .sbc_a_d),
     ([0b10011011], .sbc_a_e), ([0b10011100], .sbc_a_h), ([0b10011101], .sbc_a_l),
     ([0b10011110], .sbc_a_atHL), ([0b10011111], .sbc_a_a), ([0b11011110, 0xA7], .sbc_a_n 0xA7)] = true := by decide +kernel

/-- AND: each word written out from its pattern in 30_encoding.md R88. -/
theorem test_decode_alu_and :
    allDecode [([0b10100000], .and_b), ([0b10100001], .and_c), ([0b10100010], .and_d),
     ([0b10100011], .and_e), ([0b10100100], .and_h), ([0b10100101], .and_l),
     ([0b10100110], .and_atHL), ([0b10100111], .and_a), ([0b11100110, 0xA7], .and_n 0xA7)] = true := by decide +kernel

/-- XOR: each word written out from its pattern in 30_encoding.md R88. -/
theorem test_decode_alu_xor :
    allDecode [([0b10101000], .xor_b), ([0b10101001], .xor_c), ([0b10101010], .xor_d),
     ([0b10101011], .xor_e), ([0b10101100], .xor_h), ([0b10101101], .xor_l),
     ([0b10101110], .xor_atHL), ([0b10101111], .xor_a), ([0b11101110, 0xA7], .xor_n 0xA7)] = true := by decide +kernel

/-- OR: each word written out from its pattern in 30_encoding.md R88. -/
theorem test_decode_alu_or :
    allDecode [([0b10110000], .or_b), ([0b10110001], .or_c), ([0b10110010], .or_d),
     ([0b10110011], .or_e), ([0b10110100], .or_h), ([0b10110101], .or_l),
     ([0b10110110], .or_atHL), ([0b10110111], .or_a), ([0b11110110, 0xA7], .or_n 0xA7)] = true := by decide +kernel

/-- CP: each word written out from its pattern in 30_encoding.md R88. -/
theorem test_decode_alu_cp :
    allDecode [([0b10111000], .cp_b), ([0b10111001], .cp_c), ([0b10111010], .cp_d),
     ([0b10111011], .cp_e), ([0b10111100], .cp_h), ([0b10111101], .cp_l),
     ([0b10111110], .cp_atHL), ([0b10111111], .cp_a), ([0b11111110, 0xA7], .cp_n 0xA7)] = true := by decide +kernel

/-- PUSH and POP: each word written out from its pattern in 30_encoding.md R88. -/
theorem test_decode_stack :
    allDecode [([0b11000001], .pop_bc), ([0b11000101], .push_bc), ([0b11010001], .pop_de),
     ([0b11010101], .push_de), ([0b11100001], .pop_hl), ([0b11100101], .push_hl),
     ([0b11110001], .pop_af), ([0b11110101], .push_af)] = true := by decide +kernel

/-- JP nn: each word written out from its pattern in 30_encoding.md R88. -/
theorem test_decode_jp :
    allDecode [([0b11000011, 0x34, 0x12], .jp_nn 0x1234)] = true := by decide +kernel

/-- The unknown opcodes of 95_test_vectors.md 2.1; 0x76 is not `LD (HL),(HL)` (30_encoding.md R91). -/
theorem test_decode_unknown :
    allDecode [([0x00], .unknown 0x00), ([0x76], .unknown 0x76), ([0xCB], .unknown 0xCB), ([0x18], .unknown 0x18),
      ([0xC9], .unknown 0xC9), ([0xE9], .unknown 0xE9), ([0xF8], .unknown 0xF8), ([0x03], .unknown 0x03),
      ([0xFD], .unknown 0xFD)] = true := by decide

/-- A byte sequence that ends inside an instruction is refused by name. -/
theorem test_decode_truncated :
    (decode []).toOption = none ∧ (decode [0x06]).toOption = none ∧ (decode [0xC3]).toOption = none ∧
    (decode [0xC3, 0x34]).toOption = none := by decide

/-- 16 rows of 16 columns. -/
theorem test_rom_is_16_by_16 : RomEntry.rows.map List.length = List.replicate 16 16 := by decide

/-- A table word numbers its bits from the least significant bit of the first byte. -/
theorem test_decodeTableWord :
    decodeTableWord 8 0x41 = some .ld_b_c ∧ decodeTableWord 16 0xA506 = some (.ld_b_n 0xA5) ∧
    decodeTableWord 24 0x1234C3 = some (.jp_nn 0x1234) ∧ decodeTableWord 8 0xC3 = some (.jp_nn 0x0000) ∧
    decodeTableWord 8 0xFD = some (.unknown 0xFD) := by decide

/-! ## Single steps: the vectors of 95_test_vectors.md -/

/-- The reset state with its memory overlaid by `cells`. -/
def withCells (cells : List (Word × Byte)) : State := { State.reset with mem := Memory.seeded cells State.reset.mem }

/-- A reading of the state after one step. -/
def after {α : Type} (s : State) (f : State → α) : Option α :=
  match step s with
  | .next t => some (f t)
  | .fault _ => none
  | .refused _ => none

theorem test_ld_b_c : -- V-LD-01
    after (withCells [(0x0100, 0x41)]) (fun t => (t.bc, t.pc, t.cycles)) = some (0x1313, 0x0101, 4) := by decide
theorem test_ld_h_atHL : -- V-LD-03
    after { withCells [(0x0100, 0x66), (0xC012, 0x9A)] with hl := 0xC012 } State.hl = some 0x9A12 := by decide
theorem test_ld_atHL_l : -- V-LD-04
    after { withCells [(0x0100, 0x75)] with hl := 0xC0DE } (·.busRead 0xC0DE) = some 0xDE := by decide
theorem test_ld_atHL_a : -- V-LD-05
    after { withCells [(0x0100, 0x77)] with hl := 0x0000 } (·.busRead 0x0000) = some 0x01 := by decide
theorem test_ld_e_n : -- V-LD-09
    after (withCells [(0x0100, 0x1E), (0x0101, 0xA5)]) (fun t => (t.de, t.pc)) = some (0x00A5, 0x0102) := by decide
theorem test_ld_atHL_n : -- V-LD-13
    after { withCells [(0x0100, 0x36), (0x0101, 0x3C)] with hl := 0xD000 } (fun t => (t.busRead 0xD000, t.cycles)) =
      some (0x3C, 12) := by decide
theorem test_ld_a_atDE : -- V-LD-15
    after { withCells [(0x0100, 0x1A), (0xC200, 0x88)] with de := 0xC200 } State.af = some 0x88B0 := by decide
theorem test_ld_atBC_a : -- V-LD-16
    after { withCells [(0x0100, 0x02)] with bc := 0xC300 } (·.busRead 0xC300) = some 0x01 := by decide
theorem test_ld_atHLinc_a_wraps : -- V-LD-19
    after { withCells [(0x0100, 0x22)] with hl := 0xFFFF } (fun t => (t.hl, t.busRead 0xFFFF)) = some (0x0000, 0x01) := by
  decide
theorem test_ld_a_atHLdec_wraps : -- V-LD-22
    after { withCells [(0x0100, 0x3A), (0x0000, 0x11)] with hl := 0x0000 } (fun t => (t.af, t.hl)) =
      some (0x11B0, 0xFFFF) := by decide
theorem test_ld_atNN_a : -- V-LD-23
    after (withCells [(0x0100, 0xEA), (0x0101, 0x23), (0x0102, 0xC1)]) (fun t => (t.busRead 0xC123, t.pc)) =
      some (0x01, 0x0103) := by decide
theorem test_ld_a_atNN_reads_a_seed : -- V-LD-24
    after (withCells [(0x0100, 0xFA), (0x0101, 0x40), (0x0102, 0xFF)]) State.af = some 0x91B0 := by decide
theorem test_ldh_atN_a : -- V-LD-26
    after (withCells [(0x0100, 0xE0), (0x0101, 0xFF)]) (·.busRead 0xFFFF) = some 0x01 := by decide
theorem test_ldh_a_atN : -- V-LD-27
    after (withCells [(0x0100, 0xF0), (0x0101, 0x26)]) State.af = some 0xF1B0 := by decide
theorem test_ld_atC_a : -- V-LD-28
    after { withCells [(0x0100, 0xE2)] with bc := 0x1200 } (·.busRead 0xFF00) = some 0x01 := by decide
theorem test_ld_a_atC : -- V-LD-29
    after { withCells [(0x0100, 0xF2)] with bc := 0x0047 } State.af = some 0xFCB0 := by decide
theorem test_ld_a_n_pc_wraps : -- V-LD-30
    after { withCells [(0xFFFF, 0x3E), (0x0000, 0x5C)] with pc := 0xFFFF } (fun t => (t.af, t.pc)) =
      some (0x5CB0, 0x0001) := by decide
theorem test_ld_de_nn : -- V-16-01
    after (withCells [(0x0100, 0x11), (0x0101, 0xEF), (0x0102, 0xBE)]) State.de = some 0xBEEF := by decide
theorem test_ld_atNN_sp_wraps : -- V-16-04
    after { withCells [(0x0100, 0x08), (0x0101, 0xFF), (0x0102, 0xFF)] with sp := 0xABCD }
      (fun t => (t.busRead 0x0000, t.busRead 0xFFFF)) = some (0xAB, 0xCD) := by decide
theorem test_ld_sp_hl : -- V-16-05
    after (withCells [(0x0100, 0xF9)]) State.sp = some 0x014D := by decide
theorem test_push_hl_wraps : -- V-16-07
    after { withCells [(0x0100, 0xE5)] with sp := 0x0001 } (fun t => (t.sp, t.busRead 0x0000, t.busRead 0xFFFF)) =
      some (0xFFFF, 0x01, 0x4D) := by decide
theorem test_push_af : -- V-16-08
    after { withCells [(0x0100, 0xF5)] with sp := 0x0000 } (fun t => (t.busRead 0xFFFF, t.busRead 0xFFFE)) =
      some (0x01, 0xB0) := by decide
theorem test_pop_hl_wraps : -- V-16-10
    after { withCells [(0x0100, 0xE1), (0xFFFF, 0x78), (0x0000, 0x56)] with sp := 0xFFFF } (fun t => (t.hl, t.sp)) =
      some (0x5678, 0x0001) := by decide
theorem test_pop_af_masks : -- V-16-11
    after { withCells [(0x0100, 0xF1), (0xC000, 0xFF), (0xC001, 0x12)] with sp := 0xC000 } State.af = some 0x12F0 := by
  decide
theorem test_add_a_b : -- V-ALU-01
    after { withCells [(0x0100, 0x80)] with af := 0x0F00, bc := 0x0100 } State.af = some 0x1020 := by decide
theorem test_add_a_a : -- V-ALU-02
    after { withCells [(0x0100, 0x87)] with af := 0x8000 } State.af = some 0x0090 := by decide
theorem test_adc_a_atHL : -- V-ALU-03
    after { withCells [(0x0100, 0x8E)] with af := 0x7F10, hl := 0xC000 } State.af = some 0x8020 := by decide
theorem test_adc_carry_joins_at_full_width : -- the carry-fold corner of section 2.5: 0x00 + 0xFF + 1
    after { withCells [(0x0100, 0xCE), (0x0101, 0xFF)] with af := 0x0010 } State.af = some 0x00B0 := by decide
theorem test_sub_n : -- V-ALU-04
    after { withCells [(0x0100, 0xD6), (0x0101, 0x01)] with af := 0x0000 } State.af = some 0xFF70 := by decide
theorem test_sub_n_noBorrow : -- V-ALU-04 mapped to NoBorrow: F = 0x70 XOR 0x30
    after { withCells [(0x0100, 0xD6), (0x0101, 0x01)] with
      af := 0x0000, params := { Params.default with subBorrowPolarity := .noBorrow } } State.af = some 0xFF40 := by decide
theorem test_sbc_a_e : -- V-ALU-05
    after { withCells [(0x0100, 0x9B)] with af := 0x1010, de := 0x000F } State.af = some 0x00E0 := by decide
theorem test_and_atHL : -- V-ALU-06
    after { withCells [(0x0100, 0xA6), (0xC000, 0x0F)] with af := 0xF0D0, hl := 0xC000 } State.af = some 0x00A0 := by decide
theorem test_xor_a : -- V-ALU-07
    after (withCells [(0x0100, 0xAF)]) State.af = some 0x0080 := by decide
theorem test_or_n : -- V-ALU-08
    after { withCells [(0x0100, 0xF6), (0x0101, 0x00)] with af := 0x00F0 } State.af = some 0x0080 := by decide
theorem test_cp_l : -- V-ALU-09
    after { withCells [(0x0100, 0xBD)] with af := 0x4200, hl := 0x0042 } State.af = some 0x42C0 := by decide
theorem test_cp_n : -- V-ALU-10
    after { withCells [(0x0100, 0xFE), (0x0101, 0x90)] with af := 0x8000 } State.af = some 0x8050 := by decide
theorem test_inc_b : -- V-ID-01
    after { withCells [(0x0100, 0x04)] with bc := 0xFF00, af := 0x0100 } (fun t => (t.af, t.bc)) = some (0x01A0, 0x0000) := by
  decide
theorem test_inc_a : -- V-ID-02
    after { withCells [(0x0100, 0x3C)] with af := 0x0F50 } State.af = some 0x1030 := by decide
theorem test_inc_atHL : -- V-ID-03
    after { withCells [(0x0100, 0x34), (0xC000, 0x7F)] with hl := 0xC000 } (fun t => (t.af, t.busRead 0xC000)) =
      some (0x0130, 0x80) := by decide
theorem test_dec_c : -- V-ID-04
    after { withCells [(0x0100, 0x0D)] with bc := 0x0001 } (fun t => (t.af, t.bc)) = some (0x01D0, 0x0000) := by decide
theorem test_dec_atHL : -- V-ID-06
    after { withCells [(0x0100, 0x35)] with hl := 0xC000, af := 0x0000 } (fun t => (t.af, t.busRead 0xC000)) =
      some (0x0060, 0xFF) := by decide
theorem test_jp : -- W2
    after (withCells [(0x0100, 0xC3), (0x0101, 0x34), (0x0102, 0x12)]) (fun t => (t.pc, t.cycles)) = some (0x1234, 16) := by
  decide
theorem test_jp_operand_wraps : -- V-JP-04
    after { withCells [(0xFFFE, 0xC3), (0xFFFF, 0x78), (0x0000, 0x56)] with pc := 0xFFFE } State.pc = some 0x5678 := by
  decide
theorem test_unknown_fd : -- V-EX-01
    after (withCells [(0x0100, 0xFD)]) (fun t => (t.fault, t.pc, t.cycles)) =
      some (some { cause := .unknownOpcode, opcode := 0xFD, pc := 0x0100, sp := 0xFFFE, af := 0x01B0, bc := 0x0013,
                   de := 0x00D8, hl := 0x014D }, 0x0100, 0) := by decide

/-! ## A word of the table runs as the first instruction after reset -/

theorem test_withFetchWord_runs :
    after (State.reset.withFetchWord 16 0xA506) State.bc = some 0xA513 ∧
    after (State.reset.withFetchWord 24 0x1234C3) State.pc = some 0x1234 ∧
    (after (State.reset.withFetchWord 8 0x76) fun t => t.fault.map FaultRecord.opcode) = some (some 0x76) := by decide

/-! ## The host's load -/

/-- A short image with distinct header bytes: W4's rule with the latches named as 20_memory.md R72 names them (log 7). -/
theorem test_load_latches :
    (match State.reset.loadCartridge (some (List.replicate 0x0147 0x00 ++ [0x1B, 0x03, 0x05])) with
    | .success t => some (t.cartType, t.ramSizeCode, t.romSizeCode, t.busRead 0x0148)
    | .loadError _ => none
    | .refused _ => none) = some (0x1B, 0x03, 0x05, 0x03) := by
  decide +kernel

/-! ## Witnesses: a state and operands that meet the hypotheses of each obligation -/

/-- A live state about to run `LD B,C`. -/
def live : State := withCells [(0x0100, 0x41)]

/-- A live state about to meet 0xFD. -/
def doomed : State := withCells [(0x0100, 0xFD)]

/-- A state whose latch is set. -/
def stuck : State := doomed.raiseUnknownOpcode 0xFD

/-- The invariant holds of a live state. -/
theorem live_inv : live.Inv where
  mem_wf := by decide
  buffer_wf := by decide
  flags_low_zero := by decide
  latches := by decide
  fresh_buffer := by decide
  fault_precise := by intro r h; cases h

/-- Clause 1 at an address no entry of the seed lists, clause 2 with a seed at the first and the last address. -/
theorem witness_ResetMemoryIsZeroButForTheSeed :
    (defaultIoSeed.all fun e => decide (e.1 ≠ (0x0100 : Word))) = true ∧
    (([(0x0000, 0x11), (0xFFFF, 0x22)] : List (Word × Byte)).map Prod.fst).Nodup := ⟨by decide, by simp⟩

theorem witness_StepKeepsTheInvariant : ∃ s t, State.Inv s ∧ step s = .next t := ⟨live, _, live_inv, step_of_live rfl⟩

theorem witness_LoadKeepsTheInvariant : ∃ s t file, State.Inv s ∧ s.loadCartridge file = .success t :=
  ⟨live, _, some [0x00, 0x41], live_inv, rfl⟩

/-- A step that completes and one that faults. -/
theorem witness_StepRunsTheDecodedInstruction :
    (live.fault = none ∧ decode [live.busRead live.pc, live.busRead (live.pc + 1), live.busRead (live.pc + 2)] =
      .ok (.ld_b_c, [0x00, 0x00]) ∧ ∃ t, exec .ld_b_c live = .next t ∧ t.fault = none) ∧
    (doomed.fault = none ∧ decode [doomed.busRead doomed.pc, doomed.busRead (doomed.pc + 1), doomed.busRead (doomed.pc + 2)] =
      .ok (.unknown 0xFD, [0x00, 0x00]) ∧ ∃ t, exec (.unknown 0xFD) doomed = .next t ∧ t.fault ≠ none) :=
  ⟨⟨rfl, rfl, _, rfl, rfl⟩, rfl, rfl, _, rfl, by decide⟩

/-- Both clauses on the opcode: `LD B,C`, and `JP nn`. -/
theorem witness_StepAdvancesPcAndCycles :
    (live.fault = none ∧ live.busRead live.pc ∉ unknownOpcodes) ∧
    (withCells [(0x0100, 0xC3)]).busRead 0x0100 ∉ unknownOpcodes ∧ (withCells [(0x0100, 0xC3)]).busRead 0x0100 = 0xC3 := by
  decide

theorem witness_UnknownOpcodeStepWritesOnlyTheLatch : doomed.fault = none ∧ doomed.busRead doomed.pc ∈ unknownOpcodes := by
  decide

theorem witness_FaultedBlockHasNoStep : ∃ r, stuck.fault = some r := ⟨_, rfl⟩

theorem witness_LiveStepAnswersAndFaultsOnlyOnUnknownOpcodes : live.fault = none ∧ doomed.fault = none := by decide

/-- The default seed, and one at the ends of the high page. -/
theorem witness_FirstStepWithoutALoadFaults :
    (defaultIoSeed.all fun e => decide (0xFF00 ≤ e.1.toNat)) = true ∧
    (∀ e ∈ ([(0xFF00, 0x01), (0xFFFF, 0x02)] : List (Word × Byte)), 0xFF00 ≤ e.1.toNat) := ⟨by decide, by simp⟩

/-- Two different states that look alike to an instruction. -/
theorem witness_NoInstructionSeesCyclesOrCartridge :
    ∃ s s' t, s ≠ s' ∧ visible s = visible s' ∧ step s = .next t :=
  ⟨live, { live with cycles := 7, cartType := 0x1B }, _, by decide, by decide, step_of_live rfl⟩

/-- A run of no step and a run of one. -/
theorem witness_CyclesOfARunAreTheSumOfItsCosts :
    (∃ t, core.run 0 live = .next t ∧ t.fault = none) ∧
    (∃ t, core.run 1 live = .next t ∧ t.fault = none) ∧ live.params = .default :=
  ⟨⟨_, rfl, rfl⟩, ⟨_, rfl, rfl⟩, rfl⟩

/-- The two arms of a word write at the ends of the address space: the high byte at `a + 1` wraps, the low byte at `a`. -/
theorem witness_BusReadAfterWrite :
    (live.busWrite16 0xFFFF 0x1234).busRead 0x0000 = 0x12 ∧ (live.busWrite16 0xFFFF 0x1234).busRead 0xFFFF = 0x34 ∧
    (live.busWrite 0x0000 0x56).busRead 0x0000 = 0x56 := by decide

theorem highPage_eq_append (n : Byte) : highPage n = (0xFF#8 ++ n : BitVec 16) := by revert n; decide

/-- The stored bytes of a form stand at the addresses it stores to, so the two tables of the statements agree. -/
theorem stores_at_storeAddrs (s : State) (f : Form) : (stores s f).map Prod.fst = storeAddrs s f := by
  cases f with
  | ldhNA n => exact congrArg (fun a => [a]) (highPage_eq_append n).symm
  | ldCA => exact congrArg (fun a => [a]) (highPage_eq_append s.getC).symm
  | _ => rfl

/-- A state about to run `LD (HL),A` with HL at the next opcode. -/
def overOpcode (a : Word) : State := { withCells [(0x0100, 0x77), (0x0101, 0x40), (0x0102, 0xA5)] with hl := 0x0101, af := a }

/-- A state about to run `LD (nn),SP` over both operand bytes of the `JP nn` after it. -/
def overOperands : State :=
  { withCells [(0x0100, 0x08), (0x0101, 0x04), (0x0102, 0x01), (0x0103, 0xC3)] with sp := 0xC123 }

/-- A state about to run `PUSH HL` across the wrap, over the opcode at 0x0000 that follows it and the byte before. -/
def overWrap : State := { withCells [(0xFFFF, 0xE5)] with pc := 0xFFFF, sp := 0x0001, hl := 0x3E40 }

/-- The next opcode overwritten by a handled opcode (`LD A,n`) and by an unknown one, both its operand bytes overwritten, and its opcode
overwritten across the wrap with the storing instruction's own byte. -/
theorem witness_StoreIsSeenByTheNextFetch :
    ((overOpcode 0x3EB0).fault = none ∧ (overOpcode 0x3EB0).busRead 0x0100 ∉ unknownOpcodes ∧
      decode [0x77, 0x40, 0xA5] = .ok (.ld_atHL_a, [0x40, 0xA5]) ∧
      (List.map (byteAfter (overOpcode 0x3EB0) Instr.ld_atHL_a.form) [0x0101, 0x0102, 0x0103]) = [0x3E, 0xA5, 0x00] ∧
      decode [0x3E, 0xA5, 0x00] = .ok (.ld_a_n 0xA5, [0x00])) ∧
    ((List.map (byteAfter (overOpcode 0xFDB0) Instr.ld_atHL_a.form) [0x0101, 0x0102, 0x0103]) = [0xFD, 0xA5, 0x00] ∧
      decode [0xFD, 0xA5, 0x00] = .ok (.unknown 0xFD, [0xA5, 0x00])) ∧
    (overOperands.fault = none ∧ overOperands.busRead 0x0100 ∉ unknownOpcodes ∧
      decode [0x08, 0x04, 0x01] = .ok (.ld_atNN_sp 0x0104, []) ∧
      (List.map (byteAfter overOperands (Instr.ld_atNN_sp 0x0104).form) [0x0103, 0x0104, 0x0105]) = [0xC3, 0x23, 0xC1] ∧
      decode [0xC3, 0x23, 0xC1] = .ok (.jp_nn 0xC123, [])) ∧
    (overWrap.fault = none ∧ overWrap.busRead 0xFFFF ∉ unknownOpcodes ∧
      decode [0xE5, 0x00, 0x00] = .ok (.push_hl, [0x00, 0x00]) ∧
      (List.map (byteAfter overWrap Instr.push_hl.form) [0xFFFF, 0x0000, 0x0001]) = [0x40, 0x3E, 0x00] ∧
      decode [0x3E, 0x00, 0x00] = .ok (.ld_a_n 0x00, [0x00])) :=
  ⟨⟨by decide, by decide, rfl, by decide, rfl⟩, ⟨by decide, rfl⟩, ⟨by decide, by decide, rfl, by decide, rfl⟩,
    by decide, by decide, rfl, by decide, rfl⟩

/-- The forms of the 8-bit loads, at the first and the last register and at the ends of an immediate. -/
theorem witness_LdRegRegCopies : Instr.ld_b_b.form = .ldRR .b .b ∧ Instr.ld_a_h.form = .ldRR .a .h := ⟨rfl, rfl⟩
theorem witness_LdRegFromHLReads : Instr.ld_h_atHL.form = .ldRHL .h ∧ Instr.ld_a_atHL.form = .ldRHL .a := ⟨rfl, rfl⟩
theorem witness_LdHLFromRegStores : Instr.ld_atHL_l.form = .ldHLR .l ∧ Instr.ld_atHL_a.form = .ldHLR .a := ⟨rfl, rfl⟩
theorem witness_LdRegImmLoads : (Instr.ld_b_n 0x00).form = .ldRN .b 0x00 ∧ (Instr.ld_a_n 0xFF).form = .ldRN .a 0xFF :=
  ⟨rfl, rfl⟩
theorem witness_LdHLImmStores : (Instr.ld_atHL_n 0x00).form = .ldHLN 0x00 ∧ (Instr.ld_atHL_n 0xFF).form = .ldHLN 0xFF :=
  ⟨rfl, rfl⟩
theorem witness_LdAIndirectLoads :
    Instr.ld_a_atBC.form = .ldAInd .bc ∧ Instr.ld_a_atDE.form = .ldAInd .de ∧ Instr.ld_a_atHLinc.form = .ldAInd .hlInc ∧
    Instr.ld_a_atHLdec.form = .ldAInd .hlDec := ⟨rfl, rfl, rfl, rfl⟩
theorem witness_LdIndirectAStores :
    Instr.ld_atBC_a.form = .ldIndA .bc ∧ Instr.ld_atDE_a.form = .ldIndA .de ∧ Instr.ld_atHLinc_a.form = .ldIndA .hlInc ∧
    Instr.ld_atHLdec_a.form = .ldIndA .hlDec := ⟨rfl, rfl, rfl, rfl⟩

/-- Both clauses, at the ends of the address space. -/
theorem witness_LdAbsoluteMovesA :
    (Instr.ld_atNN_a 0x0000).form = .ldNNA 0x0000 ∧ (Instr.ld_atNN_a 0xFFFF).form = .ldNNA 0xFFFF ∧
    (Instr.ld_a_atNN 0x0000).form = .ldANN 0x0000 ∧ (Instr.ld_a_atNN 0xFFFF).form = .ldANN 0xFFFF :=
  ⟨rfl, rfl, rfl, rfl⟩

/-- The four clauses, at the ends of the high page. -/
theorem witness_HighPageMovesA :
    (Instr.ldh_atN_a 0x00).form = .ldhNA 0x00 ∧ (Instr.ldh_atN_a 0xFF).form = .ldhNA 0xFF ∧
    (Instr.ldh_a_atN 0x00).form = .ldhAN 0x00 ∧ (Instr.ldh_a_atN 0xFF).form = .ldhAN 0xFF ∧
    Instr.ld_atC_a.form = .ldCA ∧ Instr.ld_a_atC.form = .ldAC := ⟨rfl, rfl, rfl, rfl, rfl, rfl⟩

theorem witness_LdPairImmLoads :
    (Instr.ld_bc_nn 0x0000).form = .ldPairNN .bc 0x0000 ∧ (Instr.ld_sp_nn 0xFFFF).form = .ldPairNN .sp 0xFFFF := ⟨rfl, rfl⟩
theorem witness_LdAbsoluteSPStores :
    (Instr.ld_atNN_sp 0x0000).form = .ldNNSP 0x0000 ∧ (Instr.ld_atNN_sp 0xFFFF).form = .ldNNSP 0xFFFF := ⟨rfl, rfl⟩
theorem witness_LdSPFromHL : Instr.ld_sp_hl.form = .ldSPHL := rfl
theorem witness_PushStoresThePairBelowSP :
    Instr.push_bc.form = .push .bc ∧ Instr.push_af.form = .push .af ∧ live.getF &&& 0x0F = 0 := ⟨rfl, rfl, by decide⟩
theorem witness_PopLoadsThePairAtSP : Instr.pop_bc.form = .pop .bc ∧ Instr.pop_hl.form = .pop .hl ∧ PairQ.hl ≠ .af :=
  ⟨rfl, rfl, by decide⟩
theorem witness_PopAFMasksTheFlags : Instr.pop_af.form = .pop .af := rfl
theorem witness_PushThenPopRestores : PairQ.af = .af ∧ live.getF &&& 0x0F = 0 := by decide

/-- Pushes alone fit on the stack up to 0x8000 words. -/
theorem stackRun_pushes (n : Nat) (pairs : PairQ → Word) (ws : List Word) (h : ws.length + n ≤ 0x8000) :
    stackRun (List.replicate n (.push .bc)) pairs ws = some (pairs, List.replicate n (pairs .bc) ++ ws) := by
  induction n generalizing ws with
  | zero => rfl
  | succ n ih =>
    rw [List.replicate_succ, stackRun, if_pos (by omega), ih _ (by simp only [List.length_cons]; omega), List.replicate_succ']
    simp

/-- An interleaved sequence with every pair, which leaves one word; and as many words as memory holds. -/
theorem witness_StackIsLastInFirstOut :
    (stackRun [.push .bc, .push .de, .pop .hl, .push .af, .push .hl, .pop .de, .pop .af] live.getPairQ []).map
        (fun r => (r.1 .bc, r.1 .de, r.1 .hl, r.1 .af, r.2)) =
      some (0x0013, 0x00D8, 0x00D8, 0x01B0, [0x0013]) ∧
    (∃ r, stackRun (List.replicate 0x8000 (.push .bc)) live.getPairQ [] = some r) ∧
    stackRun [.pop .bc] live.getPairQ [] = none :=
  ⟨by decide, ⟨_, stackRun_pushes _ _ _ (by decide)⟩, rfl⟩

/-- The forms of the ALU operations with a register, memory and an immediate. -/
theorem witness_AddWritesSumAndFlags :
    Instr.add_a_b.form = .alu .add (.reg .b) ∧ Instr.add_a_atHL.form = .alu .add .atHL ∧
    (Instr.add_a_n 0xFF).form = .alu .add (.imm 0xFF) := ⟨rfl, rfl, rfl⟩
theorem witness_AdcWritesSumAndFlags :
    Instr.adc_a_b.form = .alu .adc (.reg .b) ∧ Instr.adc_a_atHL.form = .alu .adc .atHL ∧
    (Instr.adc_a_n 0xFF).form = .alu .adc (.imm 0xFF) := ⟨rfl, rfl, rfl⟩
theorem witness_SubWritesDifferenceAndFlags :
    Instr.sub_b.form = .alu .sub (.reg .b) ∧ Instr.sub_atHL.form = .alu .sub .atHL ∧
    (Instr.sub_n 0xFF).form = .alu .sub (.imm 0xFF) := ⟨rfl, rfl, rfl⟩
theorem witness_SbcWritesDifferenceAndFlags :
    Instr.sbc_a_b.form = .alu .sbc (.reg .b) ∧ Instr.sbc_a_atHL.form = .alu .sbc .atHL ∧
    (Instr.sbc_a_n 0xFF).form = .alu .sbc (.imm 0xFF) := ⟨rfl, rfl, rfl⟩
theorem witness_AndWritesResultAndFlags :
    Instr.and_b.form = .alu .and (.reg .b) ∧ Instr.and_atHL.form = .alu .and .atHL ∧
    (Instr.and_n 0xFF).form = .alu .and (.imm 0xFF) := ⟨rfl, rfl, rfl⟩
theorem witness_XorWritesResultAndFlags :
    Instr.xor_b.form = .alu .xor (.reg .b) ∧ Instr.xor_atHL.form = .alu .xor .atHL ∧
    (Instr.xor_n 0xFF).form = .alu .xor (.imm 0xFF) := ⟨rfl, rfl, rfl⟩
theorem witness_OrWritesResultAndFlags :
    Instr.or_b.form = .alu .or (.reg .b) ∧ Instr.or_atHL.form = .alu .or .atHL ∧
    (Instr.or_n 0xFF).form = .alu .or (.imm 0xFF) := ⟨rfl, rfl, rfl⟩
theorem witness_CpComparesAndLeavesA :
    Instr.cp_b.form = .alu .cp (.reg .b) ∧ Instr.cp_atHL.form = .alu .cp .atHL ∧
    (Instr.cp_n 0xFF).form = .alu .cp (.imm 0xFF) := ⟨rfl, rfl, rfl⟩

/-- ADC on two states that differ in F but agree on F.C. -/
theorem witness_AluKeepsNoStaleFlag :
    ∃ s s' t t', Instr.adc_a_b.form = .alu .adc (.reg .b) ∧ s ≠ s' ∧ s' = { s with af := s'.af } ∧
      s'.getA = s.getA ∧ s'.flags.c = s.flags.c ∧ exec .adc_a_b s = .next t ∧ exec .adc_a_b s' = .next t' :=
  ⟨live, { live with af := 0x0110 }, _, _, rfl, by decide, rfl, by decide, by decide, rfl, rfl⟩

theorem witness_PolarityFlipsOnlySubtractionFlags : ∃ t, exec .sub_b (withPolarity .borrow live) = .next t := ⟨_, rfl⟩

theorem witness_IncRegWritesResultAndFlags : Instr.inc_b.form = .incR .b ∧ Instr.inc_a.form = .incR .a := ⟨rfl, rfl⟩
theorem witness_IncHLWritesResultAndFlags : Instr.inc_atHL.form = .incHL := rfl
theorem witness_DecRegWritesResultAndFlags : Instr.dec_b.form = .decR .b ∧ Instr.dec_a.form = .decR .a := ⟨rfl, rfl⟩
theorem witness_DecHLWritesResultAndFlags : Instr.dec_atHL.form = .decHL := rfl

theorem witness_JumpTargetIsFinal :
    (Instr.jp_nn 0xFFFF).form = .jp 0xFFFF ∧
    ∃ s : State, s.fault = none ∧ s.busRead s.pc = 0xC3 ∧ wordAt s (s.pc + 1) = 0xFFFF :=
  ⟨rfl, withCells [(0x0100, 0xC3), (0x0101, 0xFF), (0x0102, 0xFF)], by decide⟩

theorem witness_OnlyFlagWritersChangeF : ∃ t, exec .ld_b_c live = .next t ∧ writesFlags Instr.ld_b_c.form = false :=
  ⟨_, rfl, rfl⟩

/-- A store of two bytes, and the address next above them. -/
theorem witness_OnlyStoreAddressesChange :
    ∃ t, exec (.ld_atNN_sp 0xFFFE) live = .next t ∧ (0x0000 : Word) ∉ storeAddrs live (Instr.ld_atNN_sp 0xFFFE).form :=
  ⟨_, rfl, by decide⟩

/-- Both clauses. -/
theorem witness_OnlyTheirWritersChangeSPAndPc :
    ∃ t, exec .ld_b_c live = .next t ∧ writesSP Instr.ld_b_c.form = false ∧ ∀ nn, Instr.ld_b_c.form ≠ .jp nn :=
  ⟨_, rfl, rfl, by intro nn h; cases h⟩

theorem witness_DecodeOfEncodeIsTheInstruction :
    (Instr.jp_nn 0xFFFF).wellFormed = true ∧ (Instr.unknown 0x76).wellFormed = true := by decide

theorem witness_EncodeOfDecodeIsTheBytes : decode [0xC3, 0x34, 0x12, 0x76] = .ok (.jp_nn 0x1234, [0x76]) := rfl

theorem witness_LengthFollowsFromTheOpcode : decode [0x06, 0xA5, 0x76] = .ok (.ld_b_n 0xA5, [0x76]) := rfl

/-- What an image of `n` equal bytes leaves in memory. -/
theorem busRead_load_replicate (n : Nat) (b : Byte) (a : Word) :
    (State.reset.loadImage (List.replicate n b)).busRead a =
      if a.toNat < min romWindow (min cartridgeCapacity n) then b else State.reset.busRead a := by
  simp only [State.busRead, State.loadImage, Memory.read_overlayLow, List.take_replicate, List.length_replicate]
  split
  · rename_i h
    simp [List.getD, h]
  · rfl

/-- A fresh state; and the last byte the load copies and the first it leaves, for an image below the window (2 bytes) and one beyond it
(0x8001 bytes). -/
theorem witness_LoadCopiesTheImage :
    State.reset.phase = .fresh ∧
    ((0x0001 : Word).toNat < min 2 0x8000 ∧ ¬ (0x0002 : Word).toNat < min 2 0x8000) ∧
    ((State.reset.loadImage [0x11, 0x22]).busRead 0x0001 = 0x22 ∧ (State.reset.loadImage [0x11, 0x22]).busRead 0x0002 = 0x00) ∧
    ((0x7FFF : Word).toNat < min 0x8001 0x8000 ∧ ¬ (0x8000 : Word).toNat < min 0x8001 0x8000) ∧
    (State.reset.loadImage (List.replicate 0x8001 0x5A)).busRead 0x7FFF = 0x5A ∧
    (State.reset.loadImage (List.replicate 0x8001 0x5A)).busRead 0x8000 = State.reset.busRead 0x8000 := by
  refine ⟨rfl, by decide, by decide, by decide, ?_, ?_⟩
  · rw [busRead_load_replicate, if_pos (by decide)]
  · rw [busRead_load_replicate, if_neg (by decide)]

/-- The three clauses: no file, a second load, and a load after a step. -/
theorem witness_LoadFailsOrIsRefused :
    State.reset.phase = .fresh ∧ (∃ t, State.reset.loadCartridge (some []) = .success t) ∧ ∃ t, step live = .next t :=
  ⟨rfl, ⟨_, rfl⟩, _, step_of_live rfl⟩

end Sys2Proof.Tests
end

section
/-! PROOFS. What the statements about an instruction need of its form: the bytes it is decoded from, its meaning, and the two kinds of
change (a register set, a byte stored) the statements speak of. -/

namespace Sys2Proof.Proofs

open Sys2Proof.Machine Sys2Proof.Claims

/-! ## Bytes of a word -/

@[simp] theorem lowByte_eq_lo (w : Word) : lowByte w = lo w := BitVec.setWidth_eq_extractLsb' (by decide)

@[simp] theorem highByte_eq_hi (w : Word) : highByte w = hi w := by
  unfold highByte hi
  ext i hi'
  simp [BitVec.getLsbD_ushiftRight]

/-! ## Encoding -/

/-- Every instruction but `unknown` is well formed, whatever its operands. -/
theorem wellFormed_of_form_ne_unknown {i : Instr} (h : ∀ op, i.form ≠ .unknown op) : i.wellFormed = true := by
  cases i with
  | unknown op => exact absurd rfl (h op)
  | _ => rfl

/-- A byte of R93's list has no handler (30_encoding.md R94). -/
theorem romEntry_of_mem_unknownOpcodes {op : Byte} (hop : op ∈ unknownOpcodes) : romEntry op = .unknown := by
  fin_cases hop <;> rfl

/-- The decoder undoes the encoder, whatever bytes follow. -/
theorem decode_encode_append {i : Instr} (hwf : i.wellFormed = true) (rest : List Byte) :
    decode (encode i ++ rest) = .ok (i, rest) := by
  have word (make : Word → Instr) (nn : Word) :
      (.ok (make (join (hi nn) (lo nn)), rest) : Except DecodeError _) = .ok (make nn, rest) := by rw [join_hi_lo]
  cases i with
  | ld_atNN_a nn | ld_a_atNN nn | ld_bc_nn nn | ld_atNN_sp nn | ld_de_nn nn | ld_hl_nn nn | ld_sp_nn nn | jp_nn nn =>
    exact word _ nn
  | unknown op =>
    have hop : romEntry op = .unknown := romEntry_of_mem_unknownOpcodes (List.contains_iff_mem.mp hwf)
    change decode (op :: rest) = _
    simp only [decode, hop]
  | _ => rfl

/-- An instruction whose form has a handler is encoded by that form's bytes, at the cost of their first. -/
theorem encodes_of_form {i : Instr} {f : Form} {op : Byte} {operands : List Byte} {cost : Nat} (hform : i.form = f)
    (hhandled : ∀ u, f ≠ .unknown u) (hbytes : f.encode = op :: operands) (hcost : Params.default.cycleCost op = cost) :
    Encodes i (op :: operands) cost := by
  subst hform
  have henc : encode i = op :: operands := hbytes
  have hdec := decode_encode_append (wellFormed_of_form_ne_unknown hhandled) []
  rw [List.append_nil, henc] at hdec
  refine ⟨hdec, henc, ?_⟩
  rintro _ ⟨⟩
  exact hcost

/-! ## Meaning -/

/-- The meaning of an instruction is the effect of its form. -/
theorem exec_of_form {i : Instr} {f : Form} (hform : i.form = f) (s : State) : exec i s = .next (effect f s) :=
  hform ▸ exec_eq_effect i s

/-- Writing a register sets that register and nothing else. -/
theorem setsReg_setReg8 (s : State) (r : Reg8) (v : Byte) : SetsReg s (s.setReg8 r v) r v :=
  ⟨by cases r <;> rfl, State.getF_setReg8 s r v, fun r' => State.getReg8_setReg8 s r r' v⟩

/-- A bus write stores that byte and changes nothing else. -/
theorem storesByte_busWrite (s : State) (a : Word) (v : Byte) : StoresByte s (s.busWrite a v) a v :=
  ⟨rfl, fun b => State.busRead_busWrite s a b v⟩

end Sys2Proof.Proofs
end

section
/-! PROOFS. The 8-bit loads and stores (40_load8.md R121 to R125, R134, R135). The cost of a form that names registers is read off the
default table register by register. -/

namespace Sys2Proof.Proofs

open Sys2Proof.Machine Sys2Proof.Claims

/-! ## Costs -/

theorem cycleCost_ldRR (dst src : Reg8) : Params.default.cycleCost (opXYZ 1 dst.code src.code) = 4 := by
  cases dst <;> cases src <;> rfl

theorem cycleCost_ldRHL (dst : Reg8) : Params.default.cycleCost (opXYZ 1 dst.code atHLCode) = 8 := by
  cases dst <;> rfl

theorem cycleCost_ldHLR (src : Reg8) : Params.default.cycleCost (opXYZ 1 atHLCode src.code) = 8 := by
  cases src <;> rfl

theorem cycleCost_ldRN (dst : Reg8) : Params.default.cycleCost (opXYZ 0 dst.code 6) = 8 := by
  cases dst <;> rfl

/-! ## The obligations -/

/-- Settles O16: the effect of the form is one register write, of the source's old value. -/
theorem ldRegRegCopies : Obligations.LdRegRegCopies := by
  intro i dst src hform
  refine ⟨encodes_of_form hform nofun rfl (cycleCost_ldRR dst src), fun s => ?_⟩
  exact ⟨_, exec_of_form hform s, setsReg_setReg8 s dst (s.getReg8 src)⟩

/-- Settles O17: one register write, of the byte at the old HL. -/
theorem ldRegFromHLReads : Obligations.LdRegFromHLReads := by
  intro i dst hform
  refine ⟨encodes_of_form hform nofun rfl (cycleCost_ldRHL dst), fun s => ?_⟩
  exact ⟨_, exec_of_form hform s, setsReg_setReg8 s dst (s.busRead s.hl)⟩

/-- Settles O18: one bus write at HL, of the source register. -/
theorem ldHLFromRegStores : Obligations.LdHLFromRegStores := by
  intro i src hform
  refine ⟨encodes_of_form hform nofun rfl (cycleCost_ldHLR src), fun s => ?_⟩
  exact ⟨_, exec_of_form hform s, storesByte_busWrite s s.hl (s.getReg8 src)⟩

/-- Settles O19: one register write, of the immediate. -/
theorem ldRegImmLoads : Obligations.LdRegImmLoads := by
  intro i dst n hform
  refine ⟨encodes_of_form hform nofun rfl (cycleCost_ldRN dst), fun s => ?_⟩
  exact ⟨_, exec_of_form hform s, setsReg_setReg8 s dst n⟩

/-- Settles O20: one bus write at HL, of the immediate. -/
theorem ldHLImmStores : Obligations.LdHLImmStores := by
  intro i n hform
  refine ⟨encodes_of_form hform nofun rfl rfl, fun s => ?_⟩
  exact ⟨_, exec_of_form hform s, storesByte_busWrite s s.hl n⟩

/-- Settles O23: one bus write of A at `nn`, and one write of A with the byte there. -/
theorem ldAbsoluteMovesA : Obligations.LdAbsoluteMovesA := by
  intro i nn
  rw [lowByte_eq_lo, highByte_eq_hi]
  refine ⟨fun hform => ⟨encodes_of_form hform nofun rfl rfl, fun s => ?_⟩,
    fun hform => ⟨encodes_of_form hform nofun rfl rfl, fun s => ?_⟩⟩
  · exact ⟨_, exec_of_form hform s, storesByte_busWrite s nn s.getA⟩
  · exact ⟨_, exec_of_form hform s, setsReg_setReg8 s .a (s.busRead nn)⟩

end Sys2Proof.Proofs
end

section
/-! PROOFS. The 16-bit loads and the stack (41_load16_stack.md R150, R152 to R154). PUSH and POP get one lemma each for SP, for what is
read back and for what stays; those of POP speak of every pair, AF with its mask (R155) among them. -/

namespace Sys2Proof.Proofs

open Sys2Proof.Machine Sys2Proof.Claims

/-! ## Opcode bytes and costs -/

/-- The fields `q` and `z` read as one low nibble, as the patterns of 30_encoding.md R88 write it. -/
theorem opXPQZ_eq_append (x p : BitVec 2) (q : BitVec 1) (z : BitVec 3) : opXPQZ x p q z = x ++ p ++ (q ++ z) :=
  BitVec.append_assoc

theorem cycleCost_ldPairNN (p : PairP) : Params.default.cycleCost (0b00#2 ++ p.code ++ 0b0001#4) = 12 := by
  cases p <;> rfl

theorem cycleCost_push (q : PairQ) : Params.default.cycleCost (0b11#2 ++ q.code ++ 0b0101#4) = 16 := by
  cases q <;> rfl

theorem cycleCost_pop (q : PairQ) : Params.default.cycleCost (0b11#2 ++ q.code ++ 0b0001#4) = 12 := by
  cases q <;> rfl

/-! ## Writing a pair -/

theorem setPairP_frame (s : State) (p : PairP) (v : Word) :
    let t := s.setPairP p v
    t = { s with bc := t.bc, de := t.de, hl := t.hl, sp := t.sp } := by
  cases p <;> rfl

/-- SP is none of the pairs of PUSH and POP (30_encoding.md R85). -/
@[simp] theorem getPairQ_withSp (s : State) (v : Word) (q : PairQ) : (s.withSp v).getPairQ q = s.getPairQ q := by
  cases q <;> rfl

/-! ## PUSH -/

@[simp] theorem pushPair_sp (q : PairQ) (s : State) : (pushPair q s).sp = s.sp - 2 := rfl

theorem pushPair_frame (q : PairQ) (s : State) :
    pushPair q s = { s with sp := (pushPair q s).sp, mem := (pushPair q s).mem } := rfl

/-- The two bytes of a push lie at different addresses, also where SP wraps. -/
theorem sub_two_ne_sub_one (a : Word) : a - 2 ≠ a - 1 := by bv_omega

/-- The two addresses differ, so the order of the two writes does not show. -/
theorem busRead_pushPair (q : PairQ) (s : State) (b : Word) :
    (pushPair q s).busRead b =
      if b = s.sp - 1 then hi (s.getPairQ q) else if b = s.sp - 2 then lo (s.getPairQ q) else s.busRead b := by
  simp only [pushPair, State.busRead_withSp, State.busRead_busWrite]
  by_cases hlow : b = s.sp - 2
  · rw [if_pos hlow, if_neg (hlow ▸ sub_two_ne_sub_one s.sp), if_pos hlow]
  · rw [if_neg hlow, if_neg hlow]

/-- The byte PUSH AF leaves on top of the stack is F. -/
theorem busRead_pushPair_af (s : State) : (pushPair .af s).busRead (s.sp - 2) = s.getF := by
  rw [busRead_pushPair, if_neg (sub_two_ne_sub_one s.sp), if_pos rfl]
  rfl

/-! ## POP -/

@[simp] theorem popPair_sp (q : PairQ) (s : State) : (popPair q s).sp = s.sp + 2 := rfl

/-- The popped pair is the word at SP, for AF with F masked (R155). -/
theorem getPairQ_popPair (q q' : PairQ) (s : State) :
    (popPair q s).getPairQ q' =
      if q' = q then
        (if q = .af then join (hi (wordAt s s.sp)) (flagMask (lo (wordAt s s.sp))) else wordAt s s.sp)
      else s.getPairQ q' := by
  rw [popPair, getPairQ_withSp, State.getPairQ_setPairQ]
  rfl

theorem popPair_frame {q : PairQ} (hq : q ≠ .af) (s : State) :
    let t := popPair q s
    t = { s with bc := t.bc, de := t.de, hl := t.hl, sp := t.sp } := by
  cases q with
  | af => exact absurd rfl hq
  | bc | de | hl => rfl

/-! ## The obligations -/

/-- Settles O25: the effect of the form is one pair write, of the immediate. -/
theorem ldPairImmLoads : Obligations.LdPairImmLoads := by
  intro i p nn hform
  rw [lowByte_eq_lo, highByte_eq_hi]
  have hbytes : (Form.ldPairNN p nn).encode = [0b00#2 ++ p.code ++ 0b0001#4, lo nn, hi nn] :=
    congrArg (· :: [lo nn, hi nn]) (opXPQZ_eq_append 0 p.code 0 1)
  refine ⟨encodes_of_form hform nofun hbytes (cycleCost_ldPairNN p), fun s => ?_⟩
  exact ⟨_, exec_of_form hform s, fun p' => State.getPairP_setPairP s p p' nn, setPairP_frame s p nn⟩

/-- Settles O27: the effect of the form is one write of SP, with HL. -/
theorem ldSPFromHL : Obligations.LdSPFromHL := by
  intro i hform
  exact ⟨encodes_of_form hform nofun rfl rfl, fun s => exec_of_form hform s⟩

/-- Settles O28: two bus writes below SP, at addresses that differ; for AF the lower byte is F. -/
theorem pushStoresThePairBelowSP : Obligations.PushStoresThePairBelowSP := by
  intro i q hform
  have hbytes : (Form.push q).encode = [0b11#2 ++ q.code ++ 0b0101#4] :=
    congrArg (· :: []) (opXPQZ_eq_append 3 q.code 0 5)
  refine ⟨encodes_of_form hform nofun hbytes (cycleCost_push q), fun s => ?_⟩
  rw [lowByte_eq_lo, highByte_eq_hi]
  refine ⟨_, exec_of_form hform s, pushPair_sp q s, pushPair_frame q s, busRead_pushPair q s, ?_⟩
  rintro rfl hF
  exact (congrArg (· &&& 0x0F) (busRead_pushPair_af s)).trans hF

/-- Settles O29: one pair write, of the word at SP, and SP moved up; only POP AF masks what it reads. -/
theorem popLoadsThePairAtSP : Obligations.PopLoadsThePairAtSP := by
  intro i q hform hq
  have hpair (s : State) (q' : PairQ) :
      (popPair q s).getPairQ q' = if q' = q then wordAt s s.sp else s.getPairQ q' := by
    rw [getPairQ_popPair, if_neg hq]
  have hbytes : (Form.pop q).encode = [0b11#2 ++ q.code ++ 0b0001#4] :=
    congrArg (· :: []) (opXPQZ_eq_append 3 q.code 0 1)
  refine ⟨encodes_of_form hform nofun hbytes (cycleCost_pop q), fun s => ?_⟩
  exact ⟨_, exec_of_form hform s, popPair_sp q s, hpair s, popPair_frame hq s⟩

end Sys2Proof.Proofs
end

section
/-! PROOFS. The 8-bit ALU (42_alu8.md R173, R177 to R179). The shared part is proved for every operation and operand: the bytes, the
cost, and that the instruction writes what the datapath answers. An obligation then needs only the values its operation computes. -/

namespace Sys2Proof.Proofs

open Sys2Proof.Machine Sys2Proof.Claims

/-! ## Every ALU instruction -/

theorem cycleCost_aluReg (o : AluOp) (r : Reg8) : Params.default.cycleCost (opXYZ 2 o.code r.code) = 4 := by
  cases o <;> cases r <;> rfl

theorem cycleCost_aluAtHL (o : AluOp) : Params.default.cycleCost (opXYZ 2 o.code atHLCode) = 8 := by
  cases o <;> rfl

theorem cycleCost_aluImm (o : AluOp) : Params.default.cycleCost (opXYZ 3 o.code 6) = 8 := by
  cases o <;> rfl

/-- An ALU instruction is encoded by its operation code and its operand form (30_encoding.md R88). -/
theorem encodes_alu {i : Instr} {o : AluOp} {x : AluSrc} (hform : i.form = .alu o x) :
    Encodes i (aluBytes o.code x) (aluCost x) := by
  cases x with
  | reg r => exact encodes_of_form hform nofun rfl (cycleCost_aluReg o r)
  | atHL => exact encodes_of_form hform nofun rfl (cycleCost_aluAtHL o)
  | imm n => exact encodes_of_form hform nofun rfl (cycleCost_aluImm o)

theorem readSrc_eq_operand (s : State) (x : AluSrc) : s.readSrc x = operand s x := by
  cases x <;> rfl

/-- The datapath's answer for an ALU instruction in the state `s` (R170). -/
def aluOut (o : AluOp) (x : AluSrc) (s : State) : AluOut :=
  alu s.params.subBorrowPolarity o s.getA (operand s x) s.flags.c

theorem aluInstr_eq (o : AluOp) (x : AluSrc) (s : State) :
    aluInstr o x s =
      (if (aluOut o x s).wb then s.setA (aluOut o x s).res else s).setF (aluOut o x s).flags.toByte := by
  rw [aluInstr, readSrc_eq_operand]
  rfl

/-- A becomes the result, where the operation writes it back, F the four flags, and nothing else changes (R170, R181). -/
theorem setsAccumulator_aluInstr (o : AluOp) (x : AluSrc) (s : State) :
    SetsAccumulator s (aluInstr o x s) (if (aluOut o x s).wb then (aluOut o x s).res else s.getA)
      (aluOut o x s).flags := by
  refine ⟨?_, ?_, ?_, aluInstr_only_af o x s⟩
  · rw [aluInstr_eq, State.getA_setF, apply_ite State.getA, State.getA_setA]
  · rw [aluInstr_eq, State.flags_setF]
  · rw [aluInstr_eq, State.getF_setF]
    exact flagMask_low _

/-- An ALU instruction whose operation writes back ends with the datapath's result and flags. -/
theorem exec_alu_writesBack {i : Instr} {o : AluOp} {x : AluSrc} (hform : i.form = .alu o x) (s : State)
    {res : Byte} {flags : Flags} (hout : aluOut o x s = { res, flags, wb := true }) :
    ∃ t, exec i s = .next t ∧ SetsAccumulator s t res flags := by
  have hsets := setsAccumulator_aluInstr o x s
  rw [hout] at hsets
  exact ⟨_, exec_of_form hform s, hsets⟩

/-! ## What the datapath computes -/

theorem aluAdd_eq (a b : Byte) :
    aluAdd a b =
      { res := a + b, wb := true
        flags := { z := a + b == 0, n := false, h := decide (a.toNat % 16 + b.toNat % 16 > 0x0F)
                   c := decide (a.toNat + b.toNat > 0xFF) } } := by
  have hsum : wrap8 ((a.toNat + b.toNat : Nat) : Int) = a + b := by
    rw [Int.natCast_add, wrap8_add, wrap8_toNat, wrap8_toNat]
  simp only [aluAdd, hsum, lowNibble_eq_mod]
  rfl

/-- Z of an exclusive or says that the operands are equal. -/
theorem aluXor_eq (a b : Byte) :
    aluXor a b =
      { res := a ^^^ b, wb := true, flags := { z := decide (a = b), n := false, h := false, c := false } } := by
  have hzero : a ^^^ b = 0 ↔ a = b := BitVec.xor_eq_zero_iff
  simp only [aluXor, hzero]

/-- Z of an or says that both operands are zero. -/
theorem aluOr_eq (a b : Byte) :
    aluOr a b =
      { res := a ||| b, wb := true, flags := { z := decide (a = 0 ∧ b = 0), n := false, h := false, c := false } } := by
  have hzero : a ||| b = 0 ↔ a = 0 ∧ b = 0 := BitVec.or_eq_zero_iff
  simp only [aluOr, hzero]

/-! ## The obligations -/

/-- Settles O33: the sum narrowed to a byte is the byte sum, and H compares the low nibbles. -/
theorem addWritesSumAndFlags : Obligations.AddWritesSumAndFlags := by
  intro i x hform
  have hbytes := encodes_alu hform
  exact ⟨hbytes, fun s => exec_alu_writesBack hform s (aluAdd_eq s.getA (operand s x))⟩

/-- Settles O37: by definition the datapath answers exactly these values for AND. -/
theorem andWritesResultAndFlags : Obligations.AndWritesResultAndFlags := by
  intro i x hform
  have hbytes := encodes_alu hform
  exact ⟨hbytes, fun s => exec_alu_writesBack hform s rfl⟩

/-- Settles O38: the exclusive or is zero where the operands are equal. -/
theorem xorWritesResultAndFlags : Obligations.XorWritesResultAndFlags := by
  intro i x hform
  have hbytes := encodes_alu hform
  exact ⟨hbytes, fun s => exec_alu_writesBack hform s (aluXor_eq s.getA (operand s x))⟩

/-- Settles O39: the or is zero where both operands are. -/
theorem orWritesResultAndFlags : Obligations.OrWritesResultAndFlags := by
  intro i x hform
  have hbytes := encodes_alu hform
  exact ⟨hbytes, fun s => exec_alu_writesBack hform s (aluOr_eq s.getA (operand s x))⟩

end Sys2Proof.Proofs
end

section
/-! PROOFS. The decoder and the encoder (30_encoding.md). A ROM entry is read as an instruction and its operand bytes; that the 256 entries
hold the instructions their opcodes encode is the one fact the statements on encoding rest on. -/

namespace Sys2Proof.Proofs

open Sys2Proof.Machine Sys2Proof.Claims

/-! ## Reading a ROM entry -/

/-- The instruction a ROM entry stands for, given the opcode and the operand its format has (30_encoding.md R80, R89). -/
def romInstr (op n : Byte) (nn : Word) : RomEntry → Instr
  | .f1 i => i
  | .f2 make => make n
  | .f3 make => make nn
  | .unknown => .unknown op

/-- The operand bytes of a ROM entry's format (30_encoding.md R80, R82). -/
def romOperands (n : Byte) (nn : Word) : RomEntry → List Byte
  | .f1 _ => []
  | .f2 _ => [n]
  | .f3 _ => [lo nn, hi nn]
  | .unknown => []

theorem mem_map_range_ofNat (op : Byte) : op ∈ (List.range 256).map (BitVec.ofNat 8) :=
  List.mem_map.mpr ⟨op.toNat, List.mem_range.mpr op.isLt, by simp⟩

/-- The opcode map of 30_encoding.md R90 agrees with the patterns of R88 and the list of R93, opcode by opcode. -/
theorem romInstr_encodes (op n : Byte) (nn : Word) :
    (romInstr op n nn (romEntry op)).wellFormed = true ∧
      encode (romInstr op n nn (romEntry op)) = op :: romOperands n nn (romEntry op) := by
  have hop := mem_map_range_ofNat op
  fin_cases hop <;> exact ⟨rfl, rfl⟩

theorem instrLen_eq_length (op n : Byte) (nn : Word) : instrLen op = (romOperands n nn (romEntry op)).length + 1 := by
  unfold instrLen
  cases romEntry op <;> rfl

/-- Everything a decode that answers has read: an opcode, and the operand bytes of its ROM entry. -/
theorem decode_cases {bytes rest : List Byte} {i : Instr} (h : decode bytes = .ok (i, rest)) :
    ∃ op n nn, i = romInstr op n nn (romEntry op) ∧ bytes = op :: (romOperands n nn (romEntry op) ++ rest) := by
  cases bytes with
  | nil => cases h
  | cons op more =>
    simp only [decode] at h
    refine ⟨op, ?_⟩
    split at h
    next j hrom => cases h; exact ⟨0, 0, by simp [hrom, romInstr, romOperands]⟩
    next make n more hrom => cases h; exact ⟨n, 0, by simp [hrom, romInstr, romOperands]⟩
    next => cases h
    next make first second more hrom => cases h; exact ⟨0, join second first, by simp [hrom, romInstr, romOperands]⟩
    next => cases h
    next => cases h
    next hrom => cases h; exact ⟨0, 0, by simp [hrom, romInstr, romOperands]⟩

/-- The encoder undoes the decoder, which reads well-formed instructions only. -/
theorem encode_of_decode {bytes rest : List Byte} {i : Instr} (h : decode bytes = .ok (i, rest)) :
    i.wellFormed = true ∧ encode i ++ rest = bytes := by
  obtain ⟨op, n, nn, rfl, rfl⟩ := decode_cases h
  obtain ⟨hwf, henc⟩ := romInstr_encodes op n nn
  exact ⟨hwf, by rw [henc, List.cons_append]⟩

/-- R93 lists the bytes no pattern of R88 matches, opcode by opcode. -/
theorem mem_unknownOpcodes_iff : ∀ op : Byte, op ∈ unknownOpcodes ↔ handlerPattern op = false := by
  decide +kernel

/-! ## The instruction of a form -/

/-- `unknown op` is the only instruction of its form. -/
theorem eq_unknown_of_form {i : Instr} {op : Byte} (h : i.form = .unknown op) : i = .unknown op := by
  cases i with
  | unknown => exact congrArg Instr.unknown (Form.unknown.inj h)
  | _ => cases h

/-- The instruction of a form: the one at its opcode in the dispatch ROM, with its operand. -/
def formInstr : Form → Instr
  | .ldRR dst src => romInstr 0 0 0 (romEntry (opXYZ 1 dst.code src.code))
  | .ldRHL dst => romInstr 0 0 0 (romEntry (opXYZ 1 dst.code atHLCode))
  | .ldHLR src => romInstr 0 0 0 (romEntry (opXYZ 1 atHLCode src.code))
  | .ldRN dst n => romInstr 0 n 0 (romEntry (opXYZ 0 dst.code 6))
  | .ldHLN n => .ld_atHL_n n
  | .ldAInd p => romInstr 0 0 0 (romEntry (opXPQZ 0 p.code 1 2))
  | .ldIndA p => romInstr 0 0 0 (romEntry (opXPQZ 0 p.code 0 2))
  | .ldNNA nn => .ld_atNN_a nn
  | .ldANN nn => .ld_a_atNN nn
  | .ldhNA n => .ldh_atN_a n
  | .ldhAN n => .ldh_a_atN n
  | .ldCA => .ld_atC_a
  | .ldAC => .ld_a_atC
  | .ldPairNN p nn => romInstr 0 0 nn (romEntry (opXPQZ 0 p.code 0 1))
  | .ldNNSP nn => .ld_atNN_sp nn
  | .ldSPHL => .ld_sp_hl
  | .push q => pushOf q
  | .pop q => popOf q
  | .alu o (.reg r) => romInstr 0 0 0 (romEntry (opXYZ 2 o.code r.code))
  | .alu o .atHL => romInstr 0 0 0 (romEntry (opXYZ 2 o.code atHLCode))
  | .alu o (.imm n) => romInstr 0 n 0 (romEntry (opXYZ 3 o.code 6))
  | .incR r => romInstr 0 0 0 (romEntry (opXYZ 0 r.code 4))
  | .incHL => .inc_atHL
  | .decR r => romInstr 0 0 0 (romEntry (opXYZ 0 r.code 5))
  | .decHL => .dec_atHL
  | .jp nn => .jp_nn nn
  | .unknown op => .unknown op

theorem form_formInstr (f : Form) : (formInstr f).form = f := by
  cases f with
  | ldRR dst src => cases dst <;> cases src <;> rfl
  | ldRHL r | ldHLR r | incR r | decR r | ldRN r n => cases r <;> rfl
  | ldAInd p | ldIndA p | ldPairNN p nn | push p | pop p => cases p <;> rfl
  | alu o x =>
    cases x with
    | reg r => cases o <;> cases r <;> rfl
    | atHL | imm n => cases o <;> rfl
  | _ => rfl

/-- Two instructions of one form have the same bytes, and a well-formed one is what those decode to. -/
theorem form_injective {i j : Instr} (h : j.form = i.form) : j = i := by
  by_cases hu : ∃ op, i.form = .unknown op
  · obtain ⟨op, hi⟩ := hu
    rw [eq_unknown_of_form hi, eq_unknown_of_form (h.trans hi)]
  · have hne (op : Byte) : i.form ≠ .unknown op := fun hi => hu ⟨op, hi⟩
    have hi := decode_encode_append (wellFormed_of_form_ne_unknown hne) []
    have hj := decode_encode_append (wellFormed_of_form_ne_unknown (h ▸ hne)) []
    rw [encode, h] at hj
    rw [encode, hj] at hi
    injection hi with hpair
    exact congrArg Prod.fst hpair

/-! ## The obligations -/

/-- Settles O52: case by case, the ROM entry at the encoded opcode is the instruction, and a 16-bit operand is its two bytes joined. -/
theorem decodeOfEncodeIsTheInstruction : Obligations.DecodeOfEncodeIsTheInstruction :=
  fun _ rest hwf => decode_encode_append hwf rest

/-- Settles O53: what decodes is read off a ROM entry, and three bytes hold the operand of every entry. -/
theorem encodeOfDecodeIsTheBytes : Obligations.EncodeOfDecodeIsTheBytes := by
  refine ⟨fun _ _ _ h => encode_of_decode h, fun b0 b1 b2 => ?_⟩
  cases hrom : romEntry b0 with
  | f1 i => exact ⟨i, [b1, b2], by simp [decode, hrom]⟩
  | f2 make => exact ⟨make b1, [b2], by simp [decode, hrom]⟩
  | f3 make => exact ⟨make (join b2 b1), [], by simp [decode, hrom]⟩
  | unknown => exact ⟨.unknown b0, [b1, b2], by simp [decode, hrom]⟩

/-- Settles O54: the dispatch ROM gives an instruction of each form, and the form's bytes decode to no other. -/
theorem eachFormIsOneInstruction : Obligations.EachFormIsOneInstruction := by
  intro f
  refine ⟨formInstr f, form_formInstr f, fun j hj => ?_⟩
  exact form_injective (hj.trans (form_formInstr f).symm)

/-- Settles O57: the opcode's ROM entry fixes both how many operand bytes a decode reads and `instrLen`. -/
theorem lengthFollowsFromTheOpcode : Obligations.LengthFollowsFromTheOpcode := by
  refine ⟨fun op more rest i h => ?_, fun op => ?_⟩
  · obtain ⟨op', n, nn, -, hbytes⟩ := decode_cases h
    obtain ⟨rfl, rfl⟩ := List.cons.inj hbytes
    have hlen := instrLen_eq_length op n nn
    refine ⟨?_, ?_⟩
    · rw [hlen, List.drop_succ_cons, List.drop_left]
    · rw [hlen, List.length_cons, List.length_append]
      omega
  · rw [instrLen_eq_length op 0 0]
    cases romEntry op <;> simp [romOperands]

/-- Settles O55: a listed byte decodes to `unknown`, and only a listed one is well formed as `unknown`. -/
theorem handlerSetIsThe188Patterns : Obligations.HandlerSetIsThe188Patterns := by
  refine ⟨fun op => ⟨mem_unknownOpcodes_iff op, fun hop => ?_, fun hdec => ?_⟩, by decide +kernel⟩
  · exact decode_encode_append (i := .unknown op) (List.contains_iff_mem.mpr hop) [0, 0]
  · obtain ⟨hwf, -⟩ := encode_of_decode hdec
    exact List.contains_iff_mem.mp hwf

/-- Settles O56: each word is read off the opcode map. -/
theorem sampleWordsDecode : Obligations.SampleWordsDecode :=
  ⟨rfl, rfl, rfl, rfl, rfl, rfl, rfl, rfl, rfl, rfl, rfl, rfl, rfl, rfl, rfl, rfl, rfl, rfl, rfl, rfl⟩

end Sys2Proof.Proofs
end

section
/-! PROOFS. The rest of the 8-bit ALU (42_alu8.md R174 to R176, R180): the carry and the borrows at full precision, through the polarity
(R172), and that no flag keeps an earlier value (R181). -/

namespace Sys2Proof.Proofs

open Sys2Proof.Machine Sys2Proof.Claims

/-! ## What the datapath computes -/

theorem sflag_eq_borrowFlag (s : State) (borrow : Bool) : sflag s.params.subBorrowPolarity borrow = borrowFlag s borrow := by
  rw [borrowFlag]
  cases s.params.subBorrowPolarity <;> rfl

theorem wrap8_carry (c : Bool) : wrap8 (c.toNat : Int) = (BitVec.ofBool c).setWidth 8 := by
  cases c <;> rfl

theorem wrap8_toNat_sub_toNat (a b : Byte) : wrap8 ((a.toNat : Int) - b.toNat) = a - b := by
  rw [wrap8_sub, wrap8_toNat, wrap8_toNat]

theorem sub_eq_zero_iff_eq (a b : Byte) : a - b = 0 ↔ a = b := by
  constructor
  · intro h; bv_omega
  · rintro rfl; exact BitVec.sub_self a

theorem aluAdc_eq (a b : Byte) (cin : Bool) :
    aluAdc a b cin =
      { res := BitVec.ofNat 8 (a.toNat + b.toNat + cin.toNat), wb := true
        flags := { z := decide ((a.toNat + b.toNat + cin.toNat) % 256 = 0), n := false
                   h := decide (a.toNat % 16 + b.toNat % 16 + cin.toNat > 0x0F)
                   c := decide (a.toNat + b.toNat + cin.toNat > 0xFF) } } := by
  have hzero (n : Nat) : BitVec.ofNat 8 n = 0 ↔ n % 256 = 0 := by
    rw [← BitVec.toNat_inj]
    exact Iff.rfl
  simp only [aluAdc, wrap8_natCast, lowNibble_eq_mod, hzero]

theorem aluSub_eq (s : State) (a b : Byte) :
    aluSub s.params.subBorrowPolarity a b =
      { res := a - b, wb := true
        flags := { z := decide (a = b), n := true, h := borrowFlag s (decide (a.toNat % 16 < b.toNat % 16))
                   c := borrowFlag s (decide (a.toNat < b.toNat)) } } := by
  simp only [aluSub, wrap8_toNat_sub_toNat, sub_eq_zero_iff_eq, lowNibble_eq_mod, sflag_eq_borrowFlag]

/-- CP computes what SUB does, and does not write it back. -/
theorem aluCp_eq (s : State) (a b : Byte) :
    aluCp s.params.subBorrowPolarity a b =
      { res := a - b, wb := false
        flags := { z := decide (a = b), n := true, h := borrowFlag s (decide (a.toNat % 16 < b.toNat % 16))
                   c := borrowFlag s (decide (a.toNat < b.toNat)) } } :=
  congrArg (fun out : AluOut => { out with wb := false }) (aluSub_eq s a b)

theorem aluSbc_eq (s : State) (a b : Byte) (cin : Bool) :
    aluSbc s.params.subBorrowPolarity a b cin =
      { res := a - b - (BitVec.ofBool cin).setWidth 8, wb := true
        flags := { z := a - b - (BitVec.ofBool cin).setWidth 8 == 0, n := true
                   h := borrowFlag s (decide (a.toNat % 16 < b.toNat % 16 + cin.toNat))
                   c := borrowFlag s (decide (a.toNat < b.toNat + cin.toNat)) } } := by
  have hdiff : wrap8 ((a.toNat : Int) - b.toNat - cin.toNat) = a - b - (BitVec.ofBool cin).setWidth 8 := by
    rw [wrap8_sub, wrap8_toNat_sub_toNat, wrap8_carry]
  simp only [aluSbc, hdiff, lowNibble_eq_mod, sflag_eq_borrowFlag]
  rfl

/-- Only ADC and SBC read the carry (R182). -/
theorem alu_cin_irrelevant {o : AluOp} (h : ¬(o = .adc ∨ o = .sbc)) (p : BorrowPolarity) (a b : Byte) (c c' : Bool) :
    alu p o a b c = alu p o a b c' := by
  cases o with
  | adc | sbc => simp at h
  | _ => rfl

/-- An operand sees AF through A alone. -/
theorem operand_withAf {s : State} {v : Word} (hA : (s.withAf v).getA = s.getA) (x : AluSrc) :
    operand (s.withAf v) x = operand s x := by
  cases x with
  | reg r =>
    cases r with
    | a => exact hA
    | _ => rfl
  | _ => rfl

/-- The datapath sees F through the carry alone, and that for ADC and SBC only. -/
theorem aluOut_withAf {s : State} {v : Word} {o : AluOp} (hA : (s.withAf v).getA = s.getA)
    (hcarry : (o = .adc ∨ o = .sbc) → (s.withAf v).flags.c = s.flags.c) (x : AluSrc) :
    aluOut o x (s.withAf v) = aluOut o x s := by
  rw [aluOut, aluOut, operand_withAf hA, hA, State.withAf_params]
  by_cases ho : o = .adc ∨ o = .sbc
  · rw [hcarry ho]
  · exact alu_cin_irrelevant ho _ _ _ _ _

/-- AF after an ALU instruction holds what the datapath answers and A, and nothing of the old F. -/
theorem aluInstr_eq_withAf (o : AluOp) (x : AluSrc) (s : State) :
    aluInstr o x s =
      s.withAf (join (if (aluOut o x s).wb then (aluOut o x s).res else s.getA) (aluOut o x s).flags.toByte) := by
  rw [aluInstr_eq, State.setF, flagMask_toByte]
  cases (aluOut o x s).wb with
  | false => rfl
  | true => simp [State.setA, State.withAf]

/-! ## The obligations -/

/-- Settles O34: the carry is the third summand of the result and of both comparisons. -/
theorem adcWritesSumAndFlags : Obligations.AdcWritesSumAndFlags := by
  intro i x hform
  have hbytes := encodes_alu hform
  exact ⟨hbytes, fun s => exec_alu_writesBack hform s (aluAdc_eq s.getA (operand s x) s.flags.c)⟩

/-- Settles O35: the difference is zero where the operands are equal, and both borrows go through the polarity. -/
theorem subWritesDifferenceAndFlags : Obligations.SubWritesDifferenceAndFlags := by
  intro i x hform
  have hbytes := encodes_alu hform
  exact ⟨hbytes, fun s => exec_alu_writesBack hform s (aluSub_eq s s.getA (operand s x))⟩

/-- Settles O36: as SUB, with the carry subtracted too and counted in both borrows. -/
theorem sbcWritesDifferenceAndFlags : Obligations.SbcWritesDifferenceAndFlags := by
  intro i x hform
  have hbytes := encodes_alu hform
  exact ⟨hbytes, fun s => exec_alu_writesBack hform s (aluSbc_eq s s.getA (operand s x) s.flags.c)⟩

/-- Settles O40: the datapath's answer is that of SUB, without the write of A. -/
theorem cpComparesAndLeavesA : Obligations.CpComparesAndLeavesA := by
  intro i x hform
  have hbytes := encodes_alu hform
  refine ⟨hbytes, fun s => ⟨_, exec_of_form hform s, ?_⟩⟩
  have hout : aluOut .cp x s = _ := aluCp_eq s s.getA (operand s x)
  have hsets := setsAccumulator_aluInstr .cp x s
  rw [hout] at hsets
  exact hsets

/-- Settles O41: the operand is no part of F, so the two states give the datapath the same input, but for a carry it does not read. -/
theorem aluKeepsNoStaleFlag : Obligations.AluKeepsNoStaleFlag := by
  intro i o x s s' t t' hform hs' hA hcarry ht ht'
  obtain ⟨v, rfl⟩ : ∃ v, s' = s.withAf v := ⟨_, hs'⟩
  rw [exec_of_form hform] at ht ht'
  cases ht
  cases ht'
  change aluInstr o x (s.withAf v) = aluInstr o x s
  rw [aluInstr_eq_withAf, aluInstr_eq_withAf, aluOut_withAf hA hcarry, hA]
  rfl

end Sys2Proof.Proofs
end

section
/-! PROOFS. INC and DEC (43_incdec.md R200 to R203). All four forms write F and then one byte, of a register or of memory; what such a
pair of writes leaves is said once for each. -/

namespace Sys2Proof.Proofs

open Sys2Proof.Machine Sys2Proof.Claims

/-! ## The result and the flags -/

theorem wrap8_toNat_add_one (v : Byte) : wrap8 ((v.toNat : Int) + 1) = v + 1 := by
  rw [wrap8_add, wrap8_toNat, wrap8_one]

theorem wrap8_toNat_sub_one (v : Byte) : wrap8 ((v.toNat : Int) - 1) = v - 1 := by
  rw [wrap8_sub, wrap8_toNat, wrap8_one]

theorem incFlags_eq (old : Flags) (v : Byte) :
    incFlags old v = { z := v + 1 == 0, n := false, h := decide (v.toNat % 16 = 15), c := old.c } := by
  rw [incFlags, wrap8_toNat_add_one, lowNibble_eq_mod]
  rfl

theorem decFlags_eq (s : State) (v : Byte) :
    decFlags s.params.subBorrowPolarity s.flags v =
      { z := v - 1 == 0, n := true, h := borrowFlag s (decide (v.toNat % 16 = 0)), c := s.flags.c } := by
  rw [decFlags, wrap8_toNat_sub_one, lowNibble_eq_mod, sflag_eq_borrowFlag]
  rfl

theorem cycleCost_incR (r : Reg8) : Params.default.cycleCost (0b00#2 ++ r.code ++ 0b100#3) = 4 := by
  cases r <;> rfl

theorem cycleCost_decR (r : Reg8) : Params.default.cycleCost (0b00#2 ++ r.code ++ 0b101#3) = 4 := by
  cases r <;> rfl

/-! ## A write of F and of one byte -/

theorem setF_setReg8 (s : State) (f : Flags) (r : Reg8) (v : Byte) :
    let t := (s.setF f.toByte).setReg8 r v
    PairsOnly s t ∧ (∀ r', t.getReg8 r' = if r' = r then v else s.getReg8 r') ∧ t.flags = f ∧ t.getF &&& 0x0F = 0 := by
  refine ⟨by cases r <;> rfl, fun r' => ?_, ?_, ?_⟩
  · rw [State.getReg8_setReg8, State.getReg8_setF]
  · rw [State.flags_setReg8, State.flags_setF]
  · rw [State.getF_setReg8, State.getF_setF]
    exact flagMask_low _

theorem setF_busWrite (s : State) (f : Flags) (a : Word) (v : Byte) :
    let t := (s.setF f.toByte).busWrite a v
    t.getA = s.getA ∧ t = { s with af := t.af, mem := t.mem } ∧
      (∀ b, t.busRead b = if b = a then v else s.busRead b) ∧ t.flags = f ∧ t.getF &&& 0x0F = 0 :=
  ⟨State.getA_setF s _, rfl, fun b => State.busRead_busWrite _ a b v, State.flags_setF s f,
    (congrArg (· &&& 0x0F) (State.getF_setF s _)).trans (flagMask_low _)⟩

/-! ## The obligations -/

/-- Settles O43: INC r is the write of the flags and of the register, one more than before. -/
theorem incRegWritesResultAndFlags : Obligations.IncRegWritesResultAndFlags := by
  intro i r hform
  refine ⟨encodes_of_form hform nofun rfl (cycleCost_incR r), fun s => ⟨_, exec_of_form hform s, ?_⟩⟩
  rw [effect, incReg, incFlags_eq, wrap8_toNat_add_one]
  exact setF_setReg8 s _ r _

/-- Settles O44: INC (HL) is the write of the flags and of the byte at HL, one more than before. -/
theorem incHLWritesResultAndFlags : Obligations.IncHLWritesResultAndFlags := by
  intro i hform
  refine ⟨encodes_of_form hform nofun rfl rfl, fun s => ⟨_, exec_of_form hform s, ?_⟩⟩
  rw [effect, incAtHL, incFlags_eq, wrap8_toNat_add_one]
  exact setF_busWrite s _ s.hl _

/-- Settles O45: DEC r is the write of the flags and of the register, one less than before. -/
theorem decRegWritesResultAndFlags : Obligations.DecRegWritesResultAndFlags := by
  intro i r hform
  refine ⟨encodes_of_form hform nofun rfl (cycleCost_decR r), fun s => ⟨_, exec_of_form hform s, ?_⟩⟩
  rw [effect, decReg, decFlags_eq, wrap8_toNat_sub_one]
  exact setF_setReg8 s _ r _

/-- Settles O46: DEC (HL) is the write of the flags and of the byte at HL, one less than before. -/
theorem decHLWritesResultAndFlags : Obligations.DecHLWritesResultAndFlags := by
  intro i hform
  refine ⟨encodes_of_form hform nofun rfl rfl, fun s => ⟨_, exec_of_form hform s, ?_⟩⟩
  rw [effect, decAtHL, decFlags_eq, wrap8_toNat_sub_one]
  exact setF_busWrite s _ s.hl _

end Sys2Proof.Proofs
end

section
/-! PROOFS. The accumulator loads and stores through a pointer and in the high page (40_load8.md R126 to R133, R136 to R139), the store
of SP (41_load16_stack.md R151), POP AF (R155), and the bus (20_memory.md R51 to R59). -/

namespace Sys2Proof.Proofs

open Sys2Proof.Machine Sys2Proof.Claims

/-! ## Opcode bytes and costs -/

theorem cycleCost_ldAInd (p : Pointer) : Params.default.cycleCost (0b00#2 ++ p.code ++ 0b1010#4) = 8 := by
  cases p <;> rfl

theorem cycleCost_ldIndA (p : Pointer) : Params.default.cycleCost (0b00#2 ++ p.code ++ 0b0010#4) = 8 := by
  cases p <;> rfl

/-! ## Pointers and the high page -/

theorem pointerAddr_eq_pointer (s : State) (p : Pointer) : s.pointerAddr p = pointer s p := by
  cases p <;> rfl

theorem pointerPost_eq_withHl (s : State) (p : Pointer) : s.pointerPost p = s.withHl (hlAfter s p) := by
  cases p <;> rfl

theorem hlAfter_congr {s t : State} (h : t.hl = s.hl) (p : Pointer) : hlAfter t p = hlAfter s p := by
  cases p <;> simp only [hlAfter, h]

theorem highPage_eq (n : Byte) : highPage n = 0xFF#8 ++ n := by
  revert n; decide

/-! ## The meanings -/

/-- A load of A through a pointer writes A and then HL. -/
theorem loadAccIndirect_eq (p : Pointer) (s : State) :
    loadAccIndirect p s = (s.setA (s.busRead (pointer s p))).withHl (hlAfter s p) := by
  rw [loadAccIndirect, pointerPost_eq_withHl, pointerAddr_eq_pointer, hlAfter_congr (State.setA_hl s _)]

/-- A store of A through a pointer writes the byte at the old pointer and then HL. -/
theorem storeAccIndirect_eq (p : Pointer) (s : State) :
    storeAccIndirect p s = (s.busWrite (pointer s p) s.getA).withHl (hlAfter s p) := by
  rw [storeAccIndirect, pointerPost_eq_withHl, pointerAddr_eq_pointer, hlAfter_congr (State.busWrite_hl s _ _)]

theorem busRead_busWrite16 (s : State) (a b w : Word) :
    (s.busWrite16 a w).busRead b = if b = a + 1 then hi w else if b = a then lo w else s.busRead b := by
  rw [State.busWrite16, State.busRead_busWrite, State.busRead_busWrite]

/-- The two addresses of a word differ, so the order of the two writes does not show. -/
theorem busRead_storeSPAbsolute (nn : Word) (s : State) (b : Word) :
    (storeSPAbsolute nn s).busRead b = if b = nn then lo s.sp else if b = nn + 1 then hi s.sp else s.busRead b := by
  have hne : nn ≠ nn + 1 := by bv_omega
  rw [storeSPAbsolute, busRead_busWrite16]
  by_cases hb : b = nn
  · rw [if_pos hb, if_neg (hb ▸ hne), if_pos hb]
  · rw [if_neg hb, if_neg hb]

theorem popPair_af (s : State) :
    popPair .af s = (s.withAf (join (s.busRead (s.sp + 1)) (flagMask (s.busRead s.sp)))).withSp (s.sp + 2) := by
  rw [popPair, State.setPairQ, State.setAF, State.busRead16, hi_join, lo_join]

@[simp] theorem getF_popPair_af (s : State) : (popPair .af s).getF = flagMask (s.busRead s.sp) := by
  rw [popPair_af]
  exact lo_join _ _

/-! ## The obligations -/

/-- Settles O21: one write of A, with the byte at the old pointer, and one of HL. -/
theorem ldAIndirectLoads : Obligations.LdAIndirectLoads := by
  intro i p hform
  have hbytes : (Form.ldAInd p).encode = [0b00#2 ++ p.code ++ 0b1010#4] :=
    congrArg (· :: []) (opXPQZ_eq_append 0 p.code 1 2)
  refine ⟨encodes_of_form hform nofun hbytes (cycleCost_ldAInd p), fun s => ⟨_, exec_of_form hform s, ?_⟩⟩
  rw [effect, loadAccIndirect_eq]
  exact ⟨State.getA_setA s _, State.getF_setA s _, rfl, rfl⟩

/-- Settles O22: one bus write of A at the old pointer, and one write of HL. -/
theorem ldIndirectAStores : Obligations.LdIndirectAStores := by
  intro i p hform
  have hbytes : (Form.ldIndA p).encode = [0b00#2 ++ p.code ++ 0b0010#4] :=
    congrArg (· :: []) (opXPQZ_eq_append 0 p.code 0 2)
  refine ⟨encodes_of_form hform nofun hbytes (cycleCost_ldIndA p), fun s => ⟨_, exec_of_form hform s, ?_⟩⟩
  rw [effect, storeAccIndirect_eq]
  exact ⟨rfl, rfl, fun b => State.busRead_busWrite s _ b _⟩

/-- Settles O24: one bus write of A, or one write of A, at the high-page address of the operand or of C. -/
theorem highPageMovesA : Obligations.HighPageMovesA := by
  intro i n
  have hstore (s : State) (n : Byte) : StoresByte s (storeAccHighPage n s) (0xFF#8 ++ n) s.getA := by
    rw [storeAccHighPage, highPage_eq]
    exact storesByte_busWrite s _ _
  have hload (s : State) (n : Byte) : SetsReg s (loadAccHighPage n s) .a (s.busRead (0xFF#8 ++ n)) := by
    rw [loadAccHighPage, highPage_eq]
    exact setsReg_setReg8 s .a _
  refine ⟨fun hform => ?_, fun hform => ?_, fun hform => ?_, fun hform => ?_⟩ <;>
    refine ⟨encodes_of_form hform nofun rfl rfl, fun s => ⟨_, exec_of_form hform s, ?_⟩⟩
  · exact hstore s n
  · exact hload s n
  · exact hstore s s.getC
  · exact hload s s.getC

/-- Settles O26: one word write of SP, to two different addresses. -/
theorem ldAbsoluteSPStores : Obligations.LdAbsoluteSPStores := by
  intro i nn hform
  rw [lowByte_eq_lo, highByte_eq_hi]
  refine ⟨encodes_of_form hform nofun rfl rfl, fun s => ⟨_, exec_of_form hform s, rfl, fun b => ?_⟩⟩
  rw [lowByte_eq_lo, highByte_eq_hi]
  exact busRead_storeSPAbsolute nn s b

/-- Settles O30: the mask keeps the four flags of the byte read. -/
theorem popAFMasksTheFlags : Obligations.PopAFMasksTheFlags := by
  intro i hform
  refine ⟨encodes_of_form hform nofun rfl rfl, fun s => ⟨_, exec_of_form hform s, ?_⟩⟩
  refine ⟨rfl, ?_, getF_popPair_af s, ?_, rfl⟩
  · rw [effect, popPair_af]
    exact hi_join _ _
  · rw [State.flags, effect, getF_popPair_af, ofByte_flagMask]
    rfl

/-- Settles O14: a word write is two byte writes, the high byte last. -/
theorem busReadAfterWrite : Obligations.BusReadAfterWrite := by
  intro s a b v w
  rw [lowByte_eq_lo, highByte_eq_hi]
  exact ⟨storesByte_busWrite s a v, rfl, busRead_busWrite16 s a b w⟩

end Sys2Proof.Proofs
end

section
/-! PROOFS. PUSH and POP as a stack (41_load16_stack.md R156): one push and one pop of it, and then, by induction, any sequence. -/

namespace Sys2Proof.Proofs

open Sys2Proof.Machine Sys2Proof.Claims

/-! ## Running pushes and pops -/

theorem execAll_cons (i : Instr) (rest : List Instr) (s : State) : execAll (i :: rest) s = execAll rest (effect i.form s) := by
  rw [execAll, exec_eq_effect]

theorem form_pushOf (q : PairQ) : (pushOf q).form = .push q := by
  cases q <;> rfl

theorem form_popOf (q : PairQ) : (popOf q).form = .pop q := by
  cases q <;> rfl

/-! ## The popped word -/

theorem popped_af (w : Word) : popped .af w = join (hi w) (flagMask (lo w)) := by
  calc w &&& 0xFFF0
      = (hi w ++ lo w : BitVec 16) &&& (0xFF#8 ++ 0xF0#8 : BitVec 16) := congrArg (· &&& 0xFFF0) (join_hi_lo w).symm
    _ = (hi w &&& BitVec.allOnes 8) ++ (lo w &&& 0xF0#8) := BitVec.and_append
    _ = join (hi w) (flagMask (lo w)) := by rw [BitVec.and_allOnes]; rfl

theorem getPairQ_popPair_eq_popped (q q' : PairQ) (s : State) :
    (popPair q s).getPairQ q' = if q' = q then popped q (wordAt s s.sp) else s.getPairQ q' := by
  rw [getPairQ_popPair]
  by_cases hq : q = .af
  · rw [if_pos hq, hq, popped_af]
  · rw [if_neg hq, popped, if_neg hq]

/-- A pair a push stored is popped whole; for AF that needs F's low nibble clear (10_state.md R27). -/
theorem popped_getPairQ {q : PairQ} {s : State} (h : q = .af → s.getF &&& 0x0F = 0) : popped q (s.getPairQ q) = s.getPairQ q := by
  cases q with
  | af =>
    rw [popped_af]
    exact (congrArg (join s.getA) (flagMask_of_low (h rfl))).trans (join_hi_lo s.af)
  | _ => rfl

/-! ## Words on the stack -/

/-- The bytes from SP up are the words `ws`, the last pushed first. -/
def StackHolds (s : State) (ws : List Word) : Prop :=
  ∀ (k : Nat) (w : Word), ws[k]? = some w → wordAt s (s.sp + BitVec.ofNat 16 (2 * k)) = w

/-- From `s` to `t` nothing but the pairs, SP and memory may have changed. -/
def StackOnly (s t : State) : Prop :=
  t = { s with af := t.af, bc := t.bc, de := t.de, hl := t.hl, sp := t.sp, mem := t.mem }

theorem StackOnly.trans {s t u : State} (hst : StackOnly s t) (htu : StackOnly t u) : StackOnly s u :=
  Eq.trans htu (congrArg
    (fun v : State => { v with af := u.af, bc := u.bc, de := u.de, hl := u.hl, sp := u.sp, mem := u.mem }) hst)

/-- Where the pairs and SP are as before, only memory may have changed. -/
theorem StackOnly.eq_of_pairs_eq {s t : State} (h : StackOnly s t) (hpairs : t.getPairQ = s.getPairQ) (hsp : t.sp = s.sp) :
    t = { s with mem := t.mem } := by
  have haf : t.af = s.af := congrFun hpairs .af
  have hbc : t.bc = s.bc := congrFun hpairs .bc
  have hde : t.de = s.de := congrFun hpairs .de
  have hhl : t.hl = s.hl := congrFun hpairs .hl
  rw [StackOnly, haf, hbc, hde, hhl, hsp] at h
  exact h

theorem stackOnly_pushPair (q : PairQ) (s : State) : StackOnly s (pushPair q s) := rfl

theorem stackOnly_popPair (q : PairQ) (s : State) : StackOnly s (popPair q s) := by
  cases q <;> rfl

@[simp] theorem busRead_popPair (q : PairQ) (s : State) (a : Word) : (popPair q s).busRead a = s.busRead a := by
  rw [State.busRead, popPair, State.withSp_mem, State.setPairQ_mem, State.busRead]

theorem getPairQ_pushPair (q : PairQ) (s : State) : (pushPair q s).getPairQ = s.getPairQ := by
  funext q'
  cases q' <;> rfl

theorem wordAt_pushPair_same (q : PairQ) (s : State) : wordAt (pushPair q s) (s.sp - 2) = s.getPairQ q := by
  have hhigh : s.sp - 2 + 1 = s.sp - 1 := by bv_omega
  rw [wordAt, busRead_pushPair, busRead_pushPair, if_pos hhigh, if_neg (sub_two_ne_sub_one s.sp), if_pos rfl]
  exact join_hi_lo _

/-- A push leaves every word that does not reach around to the two bytes below SP. -/
theorem wordAt_pushPair_above (q : PairQ) (s : State) {k : Nat} (hk : k + 1 < 0x8000) :
    wordAt (pushPair q s) (s.sp + BitVec.ofNat 16 (2 * k)) = wordAt s (s.sp + BitVec.ofNat 16 (2 * k)) := by
  have hread {a : Word} (ha1 : a ≠ s.sp - 1) (ha2 : a ≠ s.sp - 2) : (pushPair q s).busRead a = s.busRead a := by
    rw [busRead_pushPair, if_neg ha1, if_neg ha2]
  rw [wordAt, wordAt, hread (by bv_omega) (by bv_omega), hread (by bv_omega) (by bv_omega)]

theorem stackHolds_nil (s : State) : StackHolds s [] := by
  intro k w hw
  simp at hw

theorem StackHolds.push {s : State} {ws : List Word} (h : StackHolds s ws) (hlen : ws.length < 0x8000) (q : PairQ) :
    StackHolds (pushPair q s) (s.getPairQ q :: ws) := by
  intro k w hw
  rw [pushPair_sp]
  cases k with
  | zero =>
    cases hw
    exact (congrArg _ (BitVec.add_zero _)).trans (wordAt_pushPair_same q s)
  | succ k =>
    have hk : k < ws.length := (List.getElem?_eq_some_iff (l := ws).mp hw).1
    have haddr : s.sp - 2 + BitVec.ofNat 16 (2 * (k + 1)) = s.sp + BitVec.ofNat 16 (2 * k) := by bv_omega
    rw [haddr, wordAt_pushPair_above q s (by omega)]
    exact h k w hw

theorem StackHolds.pop {s : State} {w : Word} {ws : List Word} (h : StackHolds s (w :: ws)) (q : PairQ) :
    StackHolds (popPair q s) ws := by
  intro k w' hw
  have haddr : s.sp + 2 + BitVec.ofNat 16 (2 * k) = s.sp + BitVec.ofNat 16 (2 * (k + 1)) := by bv_omega
  rw [popPair_sp, haddr, wordAt, busRead_popPair, busRead_popPair]
  exact h (k + 1) w' hw

theorem StackHolds.head {s : State} {w : Word} {ws : List Word} (h : StackHolds s (w :: ws)) : wordAt s s.sp = w :=
  (congrArg _ (BitVec.add_zero _)).symm.trans (h 0 w rfl)

/-! ## Any sequence -/

/-- The pushes and pops simulate the stack machine, from a stack that holds any words; by induction on the sequence. -/
theorem execAll_simulates_stackRun {ops : List StackOp} {s : State} {ws ws' : List Word} {pairs : PairQ → Word}
    (hs : StackHolds s ws) (hrun : stackRun ops s.getPairQ ws = some (pairs, ws')) :
    ∃ t, execAll (ops.map StackOp.instr) s = some t ∧ (∀ q, t.getPairQ q = pairs q) ∧
      t.sp + BitVec.ofNat 16 (2 * ws'.length) = s.sp + BitVec.ofNat 16 (2 * ws.length) ∧
      StackHolds t ws' ∧ StackOnly s t := by
  induction ops generalizing s ws with
  | nil =>
    cases hrun
    exact ⟨s, rfl, fun _ => rfl, rfl, hs, rfl⟩
  | cons op ops ih =>
    cases op with
    | push q =>
      rw [stackRun] at hrun
      split at hrun
      case isFalse => cases hrun
      case isTrue hlen =>
        rw [← getPairQ_pushPair q] at hrun
        obtain ⟨t, hexec, hpairs, hsp, hholds, honly⟩ := ih (hs.push hlen q) hrun
        refine ⟨t, ?_, hpairs, ?_, hholds, (stackOnly_pushPair q s).trans honly⟩
        · rw [List.map_cons, StackOp.instr, execAll_cons, form_pushOf]
          exact hexec
        · rw [hsp, pushPair_sp, List.length_cons]
          bv_omega
    | pop q =>
      cases ws with
      | nil => cases hrun
      | cons w ws =>
        have hpair : (popPair q s).getPairQ = fun q' => if q' = q then popped q w else s.getPairQ q' :=
          funext fun q' => by rw [getPairQ_popPair_eq_popped, hs.head]
        rw [stackRun, ← hpair] at hrun
        obtain ⟨t, hexec, hpairs, hsp, hholds, honly⟩ := ih (hs.pop q) hrun
        refine ⟨t, ?_, hpairs, ?_, hholds, (stackOnly_popPair q s).trans honly⟩
        · rw [List.map_cons, StackOp.instr, execAll_cons, form_popOf]
          exact hexec
        · rw [hsp, popPair_sp, List.length_cons]
          bv_omega

/-! ## The obligations -/

/-- Settles O31: the pop reads the word just pushed, and SP comes back. -/
theorem pushThenPopRestores : Obligations.PushThenPopRestores := by
  intro q s haf
  refine ⟨popPair q (pushPair q s), ?_, ?_, fun b hb1 hb2 => ?_⟩
  · rw [execAll_cons, execAll_cons, form_pushOf, form_popOf]
    rfl
  · have honly : StackOnly s (popPair q (pushPair q s)) := (stackOnly_pushPair q s).trans (stackOnly_popPair q _)
    refine honly.eq_of_pairs_eq (funext fun q' => ?_) (BitVec.sub_add_cancel s.sp 2)
    rw [getPairQ_popPair_eq_popped, pushPair_sp, wordAt_pushPair_same, popped_getPairQ haf, getPairQ_pushPair]
    exact ite_eq_right_iff.mpr fun hq => by rw [hq]
  · rw [busRead_popPair, busRead_pushPair, if_neg hb1, if_neg hb2]

/-- Settles O32: the simulation, from the empty stack. -/
theorem stackIsLastInFirstOut : Obligations.StackIsLastInFirstOut := by
  intro ops s pairs ws hrun
  obtain ⟨t, hexec, hpairs, hsp, hholds, honly⟩ := execAll_simulates_stackRun (stackHolds_nil s) hrun
  refine ⟨t, hexec, hpairs, ?_, hholds, honly⟩
  rw [List.length_nil, Nat.mul_zero, BitVec.add_zero] at hsp
  rw [← hsp, BitVec.add_sub_cancel]

end Sys2Proof.Proofs
end

section
/-! PROOFS. What each effect leaves unchanged: memory but for the bytes its form stores (20_memory.md R54), F but for the flag writers
(10_state.md R28), SP and the pc but for their writers (R31, R32). -/

namespace Sys2Proof.Proofs

open Sys2Proof.Machine Sys2Proof.Claims

/-! ## Memory -/

/-- A form that stores nothing leaves memory as it is. -/
theorem effect_mem {f : Form} {s : State} (h : stores s f = []) : (effect f s).mem = s.mem := by
  cases f with
  | ldHLR | ldHLN | ldIndA | ldNNA | ldhNA | ldCA | ldNNSP | push | incHL | decHL => cases h
  | alu o x => rw [effect, aluInstr_only_af, State.withAf_mem]
  | _ => simp [effect, loadRegReg, loadRegFromHL, loadRegImm, loadAccIndirect, loadAccAbsolute, loadAccHighPage, loadPairImm,
      loadSPFromHL, popPair, incReg, decReg, jumpTo]

/-- Every effect keeps memory canonical, for it changes it by bus writes alone. -/
theorem effect_mem_wf (f : Form) {s : State} (h : Memory.wf s.mem = true) : Memory.wf (effect f s).mem = true := by
  cases f with
  | ldHLR | ldHLN | ldNNA | ldhNA | ldCA | incHL | decHL => exact State.busWrite_wf _ _ _ h
  | ldIndA p =>
    rw [effect, storeAccIndirect_eq]
    exact State.busWrite_wf _ _ _ h
  | ldNNSP nn => exact State.busWrite16_wf s nn s.sp h
  | push q => exact State.busWrite_wf _ _ _ (State.busWrite_wf _ _ _ h)
  | _ => rw [effect_mem rfl]; exact h

/-! What `byteAfter` says of a form, by how many bytes the form stores. -/

theorem getD_lookup_cons (k a : Word) (v d : Byte) (l : List (Word × Byte)) :
    (((k, v) :: l).lookup a).getD d = if a = k then v else (l.lookup a).getD d := by
  by_cases h : a = k
  · rw [if_pos h, h, List.lookup_cons_self, Option.getD_some]
  · rw [if_neg h, List.lookup_cons, beq_false_of_ne h]

theorem byteAfter_of_nil {s : State} {f : Form} (h : stores s f = []) (a : Word) : byteAfter s f a = s.busRead a := by
  rw [byteAfter, h]
  rfl

theorem byteAfter_of_single {s : State} {f : Form} {k : Word} {v : Byte} (h : stores s f = [(k, v)]) (a : Word) :
    byteAfter s f a = if a = k then v else s.busRead a := by
  rw [byteAfter, h, getD_lookup_cons]
  rfl

theorem byteAfter_of_pair {s : State} {f : Form} {k k' : Word} {v v' : Byte} (h : stores s f = [(k, v), (k', v')]) (a : Word) :
    byteAfter s f a = if a = k then v else if a = k' then v' else s.busRead a := by
  rw [byteAfter, h, getD_lookup_cons, getD_lookup_cons]
  rfl

/-- After an effect memory is the bytes its form stores, and the old bytes elsewhere. -/
theorem busRead_effect (f : Form) (s : State) (a : Word) : (effect f s).busRead a = byteAfter s f a := by
  cases f with
  | ldHLR | ldHLN | ldNNA =>
    rw [byteAfter_of_single rfl]
    exact State.busRead_busWrite s _ a _
  | ldhNA | ldCA =>
    rw [byteAfter_of_single rfl, ← highPage_eq]
    exact State.busRead_busWrite s _ a _
  | ldIndA p =>
    rw [byteAfter_of_single rfl, effect, storeAccIndirect_eq]
    exact State.busRead_busWrite s _ a _
  | incHL =>
    rw [byteAfter_of_single rfl, effect, incAtHL, State.busRead_busWrite, wrap8_toNat_add_one]
    rfl
  | decHL =>
    rw [byteAfter_of_single rfl, effect, decAtHL, State.busRead_busWrite, wrap8_toNat_sub_one]
    rfl
  | ldNNSP nn =>
    rw [byteAfter_of_pair rfl, lowByte_eq_lo, highByte_eq_hi]
    exact busRead_storeSPAbsolute nn s a
  | push q =>
    rw [byteAfter_of_pair rfl, lowByte_eq_lo, highByte_eq_hi]
    exact busRead_pushPair q s a
  | _ =>
    rw [byteAfter_of_nil rfl, State.busRead, effect_mem rfl, State.busRead]

/-- The stored bytes of a form stand at the addresses it stores to. -/
theorem map_fst_stores (s : State) (f : Form) : (stores s f).map Prod.fst = storeAddrs s f := by
  cases f with
  | ldhNA n => exact congrArg (fun a => [a]) (highPage_eq n).symm
  | ldCA => exact congrArg (fun a => [a]) (highPage_eq s.getC).symm
  | _ => rfl

theorem byteAfter_of_not_mem {s : State} {f : Form} {a : Word} (ha : a ∉ storeAddrs s f) :
    byteAfter s f a = s.busRead a := by
  have hlookup : (stores s f).lookup a = none := by
    refine List.lookup_eq_none_iff.mpr fun p hp => bne_iff_ne.mpr fun hap => ha ?_
    rw [← map_fst_stores, hap]
    exact List.mem_map_of_mem hp
  rw [byteAfter, hlookup, Option.getD_none]

/-! ## Flags, SP and the pc -/

/-- Outside the flag writers of R28 an effect leaves F. -/
theorem getF_effect {f : Form} (h : writesFlags f = false) (s : State) : (effect f s).getF = s.getF := by
  cases f with
  | alu | incR | incHL | decR | decHL => cases h
  | ldRR | ldRHL | ldRN => exact State.getF_setReg8 s _ _
  | ldAInd p =>
    rw [effect, loadAccIndirect_eq]
    exact State.getF_setA s _
  | ldIndA p => rw [effect, storeAccIndirect_eq]; rfl
  | ldANN | ldhAN | ldAC => exact State.getF_setA s _
  | ldPairNN p => cases p <;> rfl
  | pop q =>
    cases q with
    | af => cases h
    | bc | de | hl => rfl
  | _ => rfl

/-- Every effect leaves bits 3..0 of F zero (10_state.md R27): a flag writer masks them, any other leaves F. -/
theorem getF_effect_low (f : Form) {s : State} (h : s.getF &&& 0x0F = 0) : (effect f s).getF &&& 0x0F = 0 := by
  cases f with
  | alu o x =>
    obtain ⟨-, -, hlow, -⟩ := setsAccumulator_aluInstr o x s
    exact hlow
  | incR | decR =>
    obtain ⟨-, -, -, hlow⟩ := setF_setReg8 s _ _ _
    exact hlow
  | incHL | decHL =>
    obtain ⟨-, -, -, -, hlow⟩ := setF_busWrite s _ _ _
    exact hlow
  | pop q =>
    cases q with
    | af =>
      rw [effect, getF_popPair_af]
      exact flagMask_low _
    | bc | de | hl => exact h
  | _ => rw [getF_effect rfl]; exact h

/-- Outside the writers of R31 an effect leaves SP. -/
theorem sp_effect {f : Form} (h : writesSP f = false) (s : State) : (effect f s).sp = s.sp := by
  cases f with
  | ldSPHL | push | pop => cases h
  | ldRR | ldRHL | ldRN | incR | decR => exact State.setReg8_sp _ _ _
  | ldAInd | ldIndA => exact State.pointerPost_sp _ _
  | ldPairNN p =>
    cases p with
    | sp => cases h
    | bc | de | hl => rfl
  | alu o x => rw [effect, aluInstr_only_af, State.withAf_sp]
  | _ => rfl

/-- Every effect but the jump's leaves the pc (R32). -/
theorem pc_effect {f : Form} (h : ∀ nn, f ≠ .jp nn) (s : State) : (effect f s).pc = s.pc := by
  rw [effect_pc]
  cases f with
  | jp nn => exact absurd rfl (h nn)
  | _ => rfl

/-! ## The obligations -/

/-- Settles O49: F is left by the effect of every form that R28 does not list. -/
theorem onlyFlagWritersChangeF : Obligations.OnlyFlagWritersChangeF := by
  intro i s t hexec hform
  rw [exec_eq_effect] at hexec
  cases hexec
  exact getF_effect hform s

/-- Settles O50: the byte after is the stored one or the old one, and nothing is stored at an address outside `storeAddrs`. -/
theorem onlyStoreAddressesChange : Obligations.OnlyStoreAddressesChange := by
  intro i s t a hexec ha
  rw [exec_eq_effect] at hexec
  cases hexec
  rw [busRead_effect, byteAfter_of_not_mem ha]

/-- Settles O51: SP is left by the effect of every form that R31 does not list, and the pc by every form but the jump. -/
theorem onlyTheirWritersChangeSPAndPc : Obligations.OnlyTheirWritersChangeSPAndPc := by
  intro i s t hexec
  rw [exec_eq_effect] at hexec
  cases hexec
  exact ⟨fun hform => sp_effect hform s, fun hform => pc_effect hform s⟩

end Sys2Proof.Proofs
end

section
/-! PROOFS. The step (30_encoding.md R98 to R102; 60_exceptions.md R221, R222): what the fetch reads, and what a step from a live state
answers at a handled opcode and at an unknown one. -/

namespace Sys2Proof.Proofs

open Sys2Proof.Machine Sys2Proof.Claims

/-! ## The fetch -/

/-- The fetched instruction is the opcode's ROM entry with the operand bytes after it. -/
theorem fetchInstr_eq_romInstr (s : State) : s.fetchInstr = romInstr s.opcode s.imm8 s.imm16 (romEntry s.opcode) := by
  rw [State.fetchInstr]
  cases romEntry s.opcode <;> rfl

theorem imm16_eq_wordAt (s : State) : s.imm16 = wordAt s (s.pc + 1) := by
  have hnext : s.pc + 1 + 1 = s.pc + 2 := by bv_omega
  rw [wordAt, hnext]
  rfl

/-- The fetched instruction is well formed, and its first byte is the one at the pc. -/
theorem encode_fetchInstr (s : State) :
    s.fetchInstr.wellFormed = true ∧ (encode s.fetchInstr).head? = some s.opcode := by
  obtain ⟨hwf, henc⟩ := romInstr_encodes s.opcode s.imm8 s.imm16
  rw [fetchInstr_eq_romInstr]
  exact ⟨hwf, by rw [henc, List.head?_cons]⟩

/-- An opcode of R93's list is fetched as `unknown`. -/
theorem fetchInstr_of_unknown {s : State} (hop : s.opcode ∈ unknownOpcodes) : s.fetchInstr = .unknown s.opcode := by
  rw [fetchInstr_eq_romInstr, romEntry_of_mem_unknownOpcodes hop, romInstr]

/-- Only such an opcode is. -/
theorem form_fetchInstr_of_handled {s : State} (hop : s.opcode ∉ unknownOpcodes) (op : Byte) :
    s.fetchInstr.form ≠ .unknown op := by
  intro hform
  obtain ⟨hwf, henc⟩ := encode_fetchInstr s
  rw [eq_unknown_of_form hform] at hwf henc
  cases henc
  exact hop (List.contains_iff_mem.mp hwf)

/-- 0xC3 is fetched as `JP nn`, to the word after it. -/
theorem form_fetchInstr_of_jump {s : State} (hop : s.opcode = 0xC3) : s.fetchInstr.form = .jp (wordAt s (s.pc + 1)) := by
  rw [fetchInstr_eq_romInstr, hop, ← imm16_eq_wordAt]
  rfl

/-- No other opcode is a jump. -/
theorem form_fetchInstr_of_not_jump {s : State} (hop : s.opcode ≠ 0xC3) (nn : Word) : s.fetchInstr.form ≠ .jp nn := by
  intro hform
  obtain ⟨-, henc⟩ := encode_fetchInstr s
  rw [encode, hform] at henc
  exact hop (Option.some.inj henc).symm

/-! ## The step from a live state -/

theorem effect_fault_of_handled {f : Form} (h : ∀ op, f ≠ .unknown op) (s : State) : (effect f s).fault = s.fault := by
  rw [effect_fault]
  cases f with
  | unknown op => exact absurd rfl (h op)
  | _ => rfl

/-- The state a step that completes answers: the effect of the fetched instruction, retired. -/
def completed (s : State) : State := ((effect s.fetchInstr.form s).retire s.opcode).withPhase .running

/-- At a handled opcode the step completes. -/
theorem step_of_handled {s : State} (hlive : s.fault = none) (hop : s.opcode ∉ unknownOpcodes) :
    step s = .next (completed s) := by
  have hfault : (effect s.fetchInstr.form s).fault = none := by
    rw [effect_fault_of_handled (form_fetchInstr_of_handled hop), hlive]
  rw [step_of_live hlive, State.finish_of_live hfault, completed]

/-- At an unknown opcode it is the taking of the fault. -/
theorem step_of_unknown {s : State} (hlive : s.fault = none) (hop : s.opcode ∈ unknownOpcodes) :
    step s = .next ((s.raiseUnknownOpcode s.opcode).withPhase .running) := by
  rw [step_of_live hlive, fetchInstr_of_unknown hop]
  rfl

/-- Everything a step that answers a next state did, by the opcode at the pc. -/
theorem step_eq_next {s t : State} (h : step s = .next t) :
    s.fault = none ∧
      (s.opcode ∉ unknownOpcodes ∧ t = completed s ∨
        s.opcode ∈ unknownOpcodes ∧ t = (s.raiseUnknownOpcode s.opcode).withPhase .running) := by
  obtain ⟨hlive, -⟩ := step_cases h
  refine ⟨hlive, ?_⟩
  by_cases hop : s.opcode ∈ unknownOpcodes
  · rw [step_of_unknown hlive hop] at h
    cases h
    exact .inr ⟨hop, rfl⟩
  · rw [step_of_handled hlive hop] at h
    cases h
    exact .inl ⟨hop, rfl⟩

end Sys2Proof.Proofs
end

section
/-! PROOFS. The statements about one step and about a run of steps (30_encoding.md R98 to R102, 60_exceptions.md R220 to R225,
20_memory.md R69, 70_reset_and_hazards.md R261 to R263). -/

namespace Sys2Proof.Proofs

open Sys2Proof.Machine Sys2Proof.Claims

/-! ## The state a completed step answers -/

@[simp] theorem retire_mem (s : State) (op : Byte) : (s.retire op).mem = s.mem := rfl
@[simp] theorem retire_fault (s : State) (op : Byte) : (s.retire op).fault = s.fault := rfl
@[simp] theorem retire_cartType (s : State) (op : Byte) : (s.retire op).cartType = s.cartType := rfl
@[simp] theorem retire_ramSizeCode (s : State) (op : Byte) : (s.retire op).ramSizeCode = s.ramSizeCode := rfl
@[simp] theorem retire_romSizeCode (s : State) (op : Byte) : (s.retire op).romSizeCode = s.romSizeCode := rfl
@[simp] theorem retire_cartBuffer (s : State) (op : Byte) : (s.retire op).cartBuffer = s.cartBuffer := rfl
@[simp] theorem retire_params (s : State) (op : Byte) : (s.retire op).params = s.params := rfl
@[simp] theorem getF_retire (s : State) (op : Byte) : (s.retire op).getF = s.getF := rfl
@[simp] theorem getF_withPhase (s : State) (p : HostPhase) : (s.withPhase p).getF = s.getF := rfl
@[simp] theorem busRead_retire (s : State) (op : Byte) (a : Word) : (s.retire op).busRead a = s.busRead a := rfl

@[simp] theorem completed_phase (s : State) : (completed s).phase = .running := State.withPhase_phase _ _

theorem completed_fault {s : State} (hlive : s.fault = none) (hop : s.opcode ∉ unknownOpcodes) :
    (completed s).fault = none := by
  rw [completed, State.withPhase_fault, retire_fault, effect_fault_of_handled (form_fetchInstr_of_handled hop), hlive]

/-- A completed step leaves in memory the stored bytes of its instruction (20_memory.md R54). -/
theorem busRead_completed (s : State) (a : Word) : (completed s).busRead a = byteAfter s s.fetchInstr.form a := by
  rw [completed, State.busRead_withPhase, busRead_retire, busRead_effect]

/-- The pc goes to the jump's target, else to the next instruction (R100). -/
theorem completed_pc (s : State) :
    (completed s).pc =
      if s.opcode = 0xC3 then wordAt s (s.pc + 1) else s.pc + BitVec.ofNat 16 (instrLen s.opcode) := by
  rw [completed, State.withPhase_pc, State.retire_pc]
  by_cases hop : s.opcode = 0xC3
  · rw [if_pos hop, if_pos hop, form_fetchInstr_of_jump hop, effect_pc]
  · rw [if_neg hop, if_neg hop, pc_effect (form_fetchInstr_of_not_jump hop)]

/-- The cost is added to `cycles`, which no effect touches (R261). -/
theorem completed_cycles (s : State) : (completed s).cycles = s.cycles + s.params.cycleCost s.opcode := by
  obtain ⟨hcycles, -, -, -, -, -, hparams⟩ := effect_untouched s.fetchInstr.form s
  rw [completed, State.withPhase_cycles, State.retire_cycles, hcycles, hparams]

/-- `JP nn` costs 16 under every value of the parameter (R262). -/
theorem cycleCost_jump (p : Params) : p.cycleCost 0xC3 = 16 := rfl

/-- A completed step leaves the cartridge buffer, the header latches and the parameters (10_state.md R35, R36). -/
theorem completed_untouched (s : State) :
    (completed s).cartBuffer = s.cartBuffer ∧ (completed s).cartType = s.cartType ∧
      (completed s).ramSizeCode = s.ramSizeCode ∧ (completed s).romSizeCode = s.romSizeCode ∧
      (completed s).params = s.params := by
  obtain ⟨-, htype, hram, hrom, hbuffer, -, hparams⟩ := effect_untouched s.fetchInstr.form s
  simp [completed, htype, hram, hrom, hbuffer, hparams]

/-- So does every step. -/
theorem step_untouched {s t : State} (h : step s = .next t) :
    t.cartBuffer = s.cartBuffer ∧ t.cartType = s.cartType ∧ t.ramSizeCode = s.ramSizeCode ∧
      t.romSizeCode = s.romSizeCode ∧ t.params = s.params := by
  obtain ⟨-, ⟨-, rfl⟩ | ⟨-, rfl⟩⟩ := step_eq_next h
  · exact completed_untouched s
  · simp

/-! ## A run -/

/-- A run of one step more is that step and the rest of the run. -/
theorem run_succ_cases {k : Nat} {s t : State} (h : Sys2Proof.core.run (k + 1) s = .next t) :
    ∃ u, step s = .next u ∧ Sys2Proof.core.run k u = .next t := by
  simp only [Host.Core.run] at h
  split at h
  next u hs => exact ⟨u, hs, h⟩
  next => cases h
  next => cases h

/-- A run that ends live began live: a faulted state takes no step. -/
theorem fault_of_run {k : Nat} {s t : State} (h : Sys2Proof.core.run k s = .next t) (ht : t.fault = none) : s.fault = none := by
  cases k with
  | zero => cases h; exact ht
  | succ k =>
    obtain ⟨u, hs, -⟩ := run_succ_cases h
    exact (step_cases hs).1

/-- A step that ends live was at a handled opcode, adds its cost, and leaves the parameters. -/
theorem step_completed {s u : State} (h : step s = .next u) (hu : u.fault = none) :
    s.opcode ∉ unknownOpcodes ∧ u.cycles = s.cycles + s.params.cycleCost s.opcode ∧ u.params = s.params := by
  obtain ⟨-, -, -, -, hparams⟩ := step_untouched h
  obtain ⟨-, ⟨hop, rfl⟩ | ⟨-, rfl⟩⟩ := step_eq_next h
  · exact ⟨hop, completed_cycles s, hparams⟩
  · cases hu

theorem costOfSteps_succ {k : Nat} {s u : State} (h : step s = .next u) :
    costOfSteps (k + 1) s = s.params.cycleCost s.opcode + costOfSteps k u := by
  rw [costOfSteps, h]
  rfl

/-! ## What an instruction cannot see -/

theorem operand_visible (s : State) (x : AluSrc) : operand (visible s) x = operand s x := by
  cases x with
  | reg r => cases r <;> rfl
  | _ => rfl

/-- No effect reads or writes what `visible` hides. -/
theorem visible_effect (f : Form) (s : State) : visible (effect f s) = effect f (visible s) := by
  cases f with
  | ldRR dst src => cases dst <;> cases src <;> rfl
  | ldRHL r | ldHLR r | ldRN r | incR r | decR r => cases r <;> rfl
  | ldAInd p | ldIndA p | ldPairNN p | push p | pop p => cases p <;> rfl
  | alu o x =>
    rw [effect, effect, aluInstr_eq_withAf, aluInstr_eq_withAf, aluOut, aluOut, operand_visible]
    rfl
  | _ => rfl

/-- Nor does the end of a step read it. -/
theorem visible_finish (s : State) (op : Byte) : visible (s.finish op) = visible ((visible s).finish op) := by
  cases hf : s.fault with
  | none =>
    have hf' : (visible s).fault = none := hf
    rw [State.finish_of_live hf, State.finish_of_live hf']
    rfl
  | some r =>
    have hf' : (visible s).fault = some r := hf
    rw [State.finish_of_fault hf, State.finish_of_fault hf']
    rfl

/-- States that look alike step to states that look alike. -/
theorem visible_step {s s' : State} (h : visible s = visible s') :
    visible ((effect s.fetchInstr.form s).finish s.opcode) = visible ((effect s'.fetchInstr.form s').finish s'.opcode) := by
  have hinstr : s.fetchInstr = s'.fetchInstr := (congrArg State.fetchInstr h :)
  have hop : s.opcode = s'.opcode := (congrArg State.opcode h :)
  rw [visible_finish, visible_effect, h, hinstr, hop, ← visible_effect, ← visible_finish]

/-- Every opcode a pattern of R88 matches costs at least 4 under the default table (R262), opcode by opcode. -/
theorem four_le_cycleCost_of_handlerPattern : ∀ op : Byte, handlerPattern op = true → 4 ≤ Params.default.cycleCost op := by
  decide +kernel

theorem four_le_cycleCost_of_handled {op : Byte} (hop : op ∉ unknownOpcodes) : 4 ≤ Params.default.cycleCost op :=
  four_le_cycleCost_of_handlerPattern op (Bool.eq_true_of_not_eq_false fun h => hop ((mem_unknownOpcodes_iff op).mpr h))

/-! ## The invariant -/

/-- A completed step keeps the invariant. -/
theorem inv_completed {s : State} (hinv : s.Inv) (hlive : s.fault = none) (hop : s.opcode ∉ unknownOpcodes) :
    (completed s).Inv := by
  obtain ⟨hbuffer, htype, hram, hrom, -⟩ := completed_untouched s
  constructor
  case mem_wf => simpa [completed] using effect_mem_wf s.fetchInstr.form hinv.mem_wf
  case buffer_wf => simpa [hbuffer] using hinv.buffer_wf
  case flags_low_zero => simpa [completed] using getF_effect_low s.fetchInstr.form hinv.flags_low_zero
  case latches => simpa [htype, hram, hrom, hbuffer] using hinv.latches
  case fresh_buffer => simp
  case fault_precise => simp [State.faultPrecise, completed_fault hlive hop]

/-- A faulting step keeps it: the record is the state's own, and nothing it speaks of changes. -/
theorem inv_of_unknown {s : State} (hinv : s.Inv) (hop : s.opcode ∈ unknownOpcodes) :
    ((s.raiseUnknownOpcode s.opcode).withPhase .running).Inv where
  mem_wf := hinv.mem_wf
  buffer_wf := hinv.buffer_wf
  flags_low_zero := hinv.flags_low_zero
  latches := hinv.latches
  fresh_buffer := nofun
  fault_precise := by
    rintro r ⟨⟩
    exact ⟨rfl, hop, rfl⟩

/-! ## The obligations -/

/-- Settles O6: the fetch is the decoder's reading of the bytes at the pc, and the end of the step depends on the latch alone. -/
theorem stepRunsTheDecodedInstruction : Obligations.StepRunsTheDecodedInstruction := by
  intro s t i rest hlive hdec hexec
  have hstep : step s = .next (t.finish s.opcode) := by
    rw [step, hlive, State.fetchInstr_of_decode hdec]
    simp only [hexec]
  refine ⟨fun hfault => ?_, fun hfault => ?_⟩
  · rw [hstep, State.finish_of_live hfault]
    rfl
  · obtain ⟨r, hr⟩ := Option.ne_none_iff_exists'.mp hfault
    rw [hstep, State.finish_of_fault hr]
    rfl

/-- Settles O7: the effect of a handled opcode raises no fault, and retiring it sets the pc and adds the cost. -/
theorem stepAdvancesPcAndCycles : Obligations.StepAdvancesPcAndCycles := by
  intro s hlive hop
  refine ⟨_, step_of_handled hlive hop, completed_fault hlive hop, completed_pc s, completed_cycles s, fun hjump => ?_⟩
  rw [completed_cycles, State.opcode, hjump, cycleCost_jump]

/-- Settles O8: at an unknown opcode the step is the taking of the fault. -/
theorem unknownOpcodeStepWritesOnlyTheLatch : Obligations.UnknownOpcodeStepWritesOnlyTheLatch :=
  fun _ hlive hop => step_of_unknown hlive hop

/-- Settles O9: the step looks at the latch first. -/
theorem faultedBlockHasNoStep : Obligations.FaultedBlockHasNoStep := by
  intro s r hr
  refine ⟨step_of_faulted hr, fun t ht => ?_⟩
  rw [step_of_faulted hr] at ht
  cases ht

/-- Settles O10: a live step completes at a handled opcode and takes the fault at an unknown one. -/
theorem liveStepAnswersAndFaultsOnlyOnUnknownOpcodes : Obligations.LiveStepAnswersAndFaultsOnlyOnUnknownOpcodes := by
  intro s hlive
  by_cases hop : s.opcode ∈ unknownOpcodes
  · refine ⟨_, step_of_unknown hlive hop, ⟨fun _ => hop, fun _ => Option.some_ne_none _⟩, fun r hr => ?_⟩
    cases hr
    exact ⟨rfl, rfl, rfl⟩
  · have hfault := completed_fault hlive hop
    refine ⟨_, step_of_handled hlive hop, ⟨fun h => absurd hfault h, fun h => absurd h hop⟩, fun r hr => ?_⟩
    rw [hfault] at hr
    cases hr

/-- Settles O12: a step keeps what no effect touches, and commutes with hiding it. -/
theorem noInstructionSeesCyclesOrCartridge : Obligations.NoInstructionSeesCyclesOrCartridge := by
  intro s s' t hvis hstep
  obtain ⟨hlive, ht⟩ := step_cases hstep
  have hlive' : s'.fault = none := (congrArg State.fault hvis).symm.trans hlive
  refine ⟨step_untouched hstep, _, step_of_live hlive', ?_⟩
  rw [ht, visible_step hvis]

/-- Settles O13: by induction on the steps, each of which completes, for the run ends live. -/
theorem cyclesOfARunAreTheSumOfItsCosts : Obligations.CyclesOfARunAreTheSumOfItsCosts := by
  intro k s t hrun ht
  induction k generalizing s with
  | zero =>
    cases hrun
    exact ⟨rfl, fun _ => le_rfl⟩
  | succ k ih =>
    obtain ⟨u, hstep, hrest⟩ := run_succ_cases hrun
    obtain ⟨hop, hcycles, hparams⟩ := step_completed hstep (fault_of_run hrest ht)
    obtain ⟨hsum, hmin⟩ := ih u hrest
    refine ⟨?_, fun hdefault => ?_⟩
    · rw [hsum, hcycles, costOfSteps_succ hstep, Nat.add_assoc]
    · have hcost := four_le_cycleCost_of_handled hop
      have hmin := hmin (hparams.trans hdefault)
      rw [hcycles, hdefault] at hmin
      omega

/-- Settles O15: after the step memory is what `byteAfter` says, and the next step decodes its instruction from there. -/
theorem storeIsSeenByTheNextFetch : Obligations.StoreIsSeenByTheNextFetch := by
  intro s i rest hlive hop hdec
  obtain ⟨t, hstep, hfault, hphase, hmem⟩ :
      ∃ t, step s = .next t ∧ t.fault = none ∧ t.phase = .running ∧ ∀ a, t.busRead a = byteAfter s i.form a := by
    rw [← State.fetchInstr_of_decode hdec]
    exact ⟨_, step_of_handled hlive hop, completed_fault hlive hop, completed_phase s, busRead_completed s⟩
  refine ⟨t, hstep, hfault, hmem, fun j rest' hdec' => ?_⟩
  obtain ⟨v, hexec, hphase'⟩ : ∃ v, exec j t = .next v ∧ v.phase = .running := by
    obtain ⟨-, -, -, -, -, hphase', -⟩ := effect_untouched j.form t
    exact ⟨_, exec_eq_effect j t, hphase'.trans hphase⟩
  rw [← hmem, ← hmem, ← hmem] at hdec'
  have hnext := stepRunsTheDecodedInstruction t v j rest' hfault hdec' hexec
  rw [← hphase'] at hnext
  rw [← hmem]
  exact ⟨v, hexec, hnext⟩

/-- Settles O4: an effect keeps memory canonical, the low nibble of F zero and the rest of the invariant untouched; a faulting step only
sets the latch, to the record of the state. -/
theorem stepKeepsTheInvariant : Obligations.StepKeepsTheInvariant := by
  intro s t hinv hstep
  obtain ⟨hlive, ⟨hop, rfl⟩ | ⟨hop, rfl⟩⟩ := step_eq_next hstep
  · exact inv_completed hinv hlive hop
  · exact inv_of_unknown hinv hop

/-- Settles O47: the handler sets the pc, and neither the step nor `CycleCost` touches what it set. -/
theorem jumpTargetIsFinal : Obligations.JumpTargetIsFinal := by
  intro i nn hform
  rw [lowByte_eq_lo, highByte_eq_hi]
  refine ⟨encodes_of_form hform nofun rfl rfl, fun s => exec_of_form hform s, fun s hlive hjump hnn => ?_⟩
  have hop : s.opcode = 0xC3 := hjump
  have hhandled : s.opcode ∉ unknownOpcodes := by rw [hop]; decide
  rw [step_of_handled hlive hhandled, completed, form_fetchInstr_of_jump hop, hnn, hop]
  rfl

/-- Settles O48: the meaning of `unknown` is the taking of the fault. -/
theorem unknownOpcodeTakesTheFault : Obligations.UnknownOpcodeTakesTheFault :=
  fun op s => exec_eq_effect (.unknown op) s

end Sys2Proof.Proofs
end

section
/-! PROOFS. Reset (10_state.md R39, 70_reset_and_hazards.md R250 to R255) and the host's load of a cartridge (20_memory.md R71 to R74). -/

namespace Sys2Proof.Proofs

open Sys2Proof.Machine Sys2Proof.Claims

/-! ## A seeded memory -/

/-- Seeding leaves every address the seed does not list. -/
theorem read_seeded_of_not_mem {seed : List (Word × Byte)} {a : Word} (h : ∀ e ∈ seed, e.1 ≠ a) (m : Memory) :
    Memory.read (Memory.seeded seed m) a.toNat = Memory.read m a.toNat := by
  induction seed generalizing m with
  | nil => rfl
  | cons e rest ih =>
    obtain ⟨he, hrest⟩ := List.forall_mem_cons.mp h
    have hne : a.toNat ≠ e.1.toNat := fun heq => he (BitVec.eq_of_toNat_eq heq.symm)
    rw [Memory.seeded, ih hrest, Memory.read_write, if_neg hne]

/-- With one entry an address, a listed address reads its entry's byte. -/
theorem read_seeded_of_mem {seed : List (Word × Byte)} {a : Word} {v : Byte} (hnodup : (seed.map Prod.fst).Nodup)
    (h : (a, v) ∈ seed) (m : Memory) : Memory.read (Memory.seeded seed m) a.toNat = v := by
  induction seed generalizing m with
  | nil => cases h
  | cons e rest ih =>
    obtain ⟨hnew, hrest⟩ := List.nodup_cons.mp hnodup
    rw [Memory.seeded]
    rcases List.mem_cons.mp h with rfl | h
    · have hlater : ∀ e ∈ rest, e.1 ≠ a := fun e he heq => hnew (List.mem_map.mpr ⟨e, he, heq⟩)
      rw [read_seeded_of_not_mem hlater, Memory.read_write, if_pos rfl]
    · exact ih hrest h _

/-! ## The buffer and the window of a load -/

theorem getD_take_of_lt {bytes : List Byte} {n k : Nat} (hk : k < n) (d : Byte) : (bytes.take n).getD k d = bytes.getD k d := by
  rw [List.getD_eq_getElem?_getD, List.getD_eq_getElem?_getD, List.getElem?_take_of_lt hk]

/-- The buffer of a load holds the image's bytes up to its capacity. -/
theorem read_bufferOf (image : List Byte) {k : Nat} (hk : k < 0x200000) :
    Memory.read (State.bufferOf image) k = image.getD k 0x00 := by
  have hread := Memory.read_ofBytes 0 (image.take cartridgeCapacity) k
  rw [Nat.zero_add, getD_take_of_lt (n := cartridgeCapacity) hk] at hread
  exact hread

/-- Memory after a load: the image below its length and 0x8000, the old bytes above (R71). -/
theorem busRead_loadImage (s : State) (image : List Byte) (a : Word) :
    (s.loadImage image).busRead a =
      if a.toNat < min image.length 0x8000 then image.getD a.toNat 0x00 else s.busRead a := by
  have hlen : ((image.take cartridgeCapacity).take romWindow).length = min image.length 0x8000 := by
    rw [List.take_take, List.length_take, Nat.min_comm]
    rfl
  have hread := Memory.read_overlayLow ((image.take cartridgeCapacity).take romWindow) s.mem a.toNat
  rw [hlen] at hread
  refine hread.trans ?_
  split
  next ha =>
    have hwindow : a.toNat < romWindow := lt_of_lt_of_le ha (Nat.min_le_right _ _)
    rw [getD_take_of_lt hwindow, getD_take_of_lt (lt_trans hwindow (by decide))]
    rfl
  next => rfl

theorem bufferOf_wf (image : List Byte) : Memory.wfFrom cartridgeCapacity 0 (State.bufferOf image) = true :=
  Memory.ofBytes_wfFrom (by rw [List.length_take]; omega)

/-- Every step marks that one was taken (log 6). -/
theorem phase_finish (s : State) (op : Byte) : (s.finish op).phase = .running := rfl

/-! What a load answers, by the host's phase (R73, R74). -/

theorem loadCartridge_of_fresh {s : State} (h : s.phase = .fresh) (image : List Byte) :
    s.loadCartridge (some image) = .success (s.loadImage image) := by
  simp [State.loadCartridge, h]

theorem loadCartridge_none_of_fresh {s : State} (h : s.phase = .fresh) : s.loadCartridge none = .loadError s := by
  simp [State.loadCartridge, h]

theorem loadCartridge_of_loaded {s : State} (h : s.phase = .loaded) (file : Option (List Byte)) :
    s.loadCartridge file = .refused .secondLoad := by
  simp [State.loadCartridge, h]

theorem loadCartridge_of_running {s : State} (h : s.phase = .running) (file : Option (List Byte)) :
    s.loadCartridge file = .refused .loadAfterStep := by
  simp [State.loadCartridge, h]

/-- A load answers a state only before any load or step, and for a file that opens. -/
theorem loadCartridge_cases {s t : State} {file : Option (List Byte)} (h : s.loadCartridge file = .success t) :
    s.phase = .fresh ∧ ∃ image, t = s.loadImage image := by
  cases hphase : s.phase with
  | fresh =>
    cases file with
    | none => rw [loadCartridge_none_of_fresh hphase] at h; cases h
    | some image =>
      rw [loadCartridge_of_fresh hphase] at h
      cases h
      exact ⟨rfl, image, rfl⟩
  | loaded => rw [loadCartridge_of_loaded hphase] at h; cases h
  | running => rw [loadCartridge_of_running hphase] at h; cases h

/-! ## The obligations -/

/-- Settles O1: the reset state's fields are the table's values, and an empty buffer reads 0x00 everywhere. -/
theorem resetState : Obligations.ResetState := by
  intro p seed
  obtain ⟨hA, hF⟩ : hi 0x01B0 = 0x01 ∧ lo 0x01B0 = 0xB0 := by decide
  have hflags : Flags.ofByte (lo 0x01B0) = { z := true, n := false, h := true, c := true } := by decide
  obtain ⟨hB, hC⟩ : hi 0x0013 = 0x00 ∧ lo 0x0013 = 0x13 := by decide
  obtain ⟨hD, hE⟩ : hi 0x00D8 = 0x00 ∧ lo 0x00D8 = 0xD8 := by decide
  obtain ⟨hH, hL⟩ : hi 0x014D = 0x01 ∧ lo 0x014D = 0x4D := by decide
  exact ⟨⟨hA, hF, rfl, hflags⟩, ⟨hB, hC, rfl⟩, ⟨hD, hE, rfl⟩, ⟨hH, hL, rfl⟩, rfl, rfl, rfl, rfl,
    ⟨rfl, rfl, rfl⟩, fun k _ => Memory.read_nil k, rfl, rfl⟩

/-- Settles O2: by induction on the seed, whose later entries are at other addresses. -/
theorem resetMemoryIsZeroButForTheSeed : Obligations.ResetMemoryIsZeroButForTheSeed :=
  fun _ _ _ => ⟨fun h => read_seeded_of_not_mem h [], fun hnodup _ h => read_seeded_of_mem hnodup h []⟩

/-- Settles O3: seeding keeps memory canonical, and no latch is set. -/
theorem resetMeetsTheInvariant : Obligations.ResetMeetsTheInvariant := fun _ seed => {
  mem_wf := Memory.seeded_wf seed rfl
  buffer_wf := rfl
  flags_low_zero := show lo 0x01B0 &&& 0x0F = 0 by decide
  latches := ⟨rfl, rfl, rfl⟩
  fresh_buffer := fun _ => rfl
  fault_precise := nofun }

/-- Settles O11: no entry of the seed is at 0x0100, so the byte there is 0x00, which has no handler. -/
theorem firstStepWithoutALoadFaults : Obligations.FirstStepWithoutALoadFaults := by
  intro p seed hseed
  have hop : (State.resetWith p seed).opcode = 0x00 := by
    refine read_seeded_of_not_mem (a := 0x0100) (fun e he heq => ?_) []
    have hhigh := hseed e he
    rw [heq] at hhigh
    exact absurd hhigh (by decide)
  have hunknown : (State.resetWith p seed).opcode ∈ unknownOpcodes := by rw [hop]; decide
  refine ⟨_, step_of_unknown rfl hunknown, rfl, ?_⟩
  rw [hop]
  rfl

/-- Settles O5: the overlay and the buffer are canonical, the latches are read off the buffer, and a latch set before a load would mean
that a step was taken. -/
theorem loadKeepsTheInvariant : Obligations.LoadKeepsTheInvariant := by
  intro s t file hinv hload
  obtain ⟨hfresh, image, rfl⟩ := loadCartridge_cases hload
  exact {
    mem_wf := Memory.overlayLow_wf (le_trans (List.length_take_le _ _) (by decide)) hinv.mem_wf
    buffer_wf := bufferOf_wf image
    flags_low_zero := hinv.flags_low_zero
    latches := ⟨rfl, rfl, rfl⟩
    fresh_buffer := nofun
    fault_precise := fun r hr => by
      obtain ⟨-, -, hrunning⟩ := hinv.fault_precise r hr
      cases hfresh.symm.trans hrunning }

/-- Settles O58: the buffer is made of the image's first bytes, and so are the window and the latches. -/
theorem loadCopiesTheImage : Obligations.LoadCopiesTheImage := by
  intro s image hfresh
  refine ⟨s.loadImage image, loadCartridge_of_fresh hfresh image, fun k hk => read_bufferOf image hk, busRead_loadImage s image, ?_⟩
  have hlatch {k : Nat} (hk : k < 0x200000) := read_bufferOf image hk
  exact ⟨hlatch (by decide), hlatch (by decide), hlatch (by decide), rfl⟩

/-- Settles O59: a load looks at the phase first, which a load that succeeds and any step set. -/
theorem loadFailsOrIsRefused : Obligations.LoadFailsOrIsRefused := by
  refine ⟨fun s hfresh => loadCartridge_none_of_fresh hfresh, fun s t image file hload => ?_, fun s t file hstep => ?_⟩
  · obtain ⟨-, image, rfl⟩ := loadCartridge_cases hload
    exact loadCartridge_of_loaded rfl file
  · obtain ⟨-, rfl⟩ := step_cases hstep
    exact loadCartridge_of_running (phase_finish _ _) file

end Sys2Proof.Proofs
end

section
/-! PROOFS. `SubBorrowPolarity` (42_alu8.md R172): flipping the parameter flips the borrow flags in AF, and nothing else any instruction
does. -/

namespace Sys2Proof.Proofs

open Sys2Proof.Machine Sys2Proof.Claims

/-! ## Flipping bits of AF -/

/-- The state with the bits of `m` flipped in AF. -/
def flipAf (m : Word) (s : State) : State := s.withAf (s.af ^^^ m)

theorem flipAf_zero (s : State) : flipAf 0 s = s := congrArg s.withAf BitVec.xor_zero

theorem join_xor (a b m : Byte) : join a (b ^^^ m) = join a b ^^^ join 0 m :=
  ((BitVec.xor_append (x₁ := a) (x₂ := 0)).trans (congrArg (· ++ (b ^^^ m)) BitVec.xor_zero)).symm

theorem lo_xor (x y : Word) : lo (x ^^^ y) = lo x ^^^ lo y := BitVec.extractLsb'_xor

theorem flagMask_xor (b m : Byte) : flagMask (b ^^^ m) = flagMask b ^^^ flagMask m := by
  apply BitVec.eq_of_getLsbD_eq
  intro i _
  simp [flagMask, Bool.and_xor_distrib_right]

/-- Flipping flag bits as F is written flips them in AF. -/
theorem setF_xor (s : State) (b : Byte) {m : Byte} (hm : flagMask m = m) :
    s.setF (b ^^^ m) = flipAf (join 0 m) (s.setF b) := by
  rw [State.setF, flagMask_xor, hm, join_xor]
  rfl

/-- A register write does not see flag bits, nor they it. -/
theorem setReg8_flipAf (s : State) (r : Reg8) (v m : Byte) :
    (flipAf (join 0 m) s).setReg8 r v = flipAf (join 0 m) (s.setReg8 r v) := by
  cases r with
  | a =>
    have haf : join v (lo (s.af ^^^ join 0 m)) = join v (lo s.af) ^^^ join 0 m := by
      rw [lo_xor, lo_join, join_xor]
    exact congrArg s.withAf haf
  | _ => rfl

/-! ## The borrow flags under the two polarities -/

theorem operand_withPolarity (p : BorrowPolarity) (s : State) (x : AluSrc) : operand (withPolarity p s) x = operand s x := by
  cases x with
  | reg r => cases r <;> rfl
  | _ => rfl

theorem toByte_not_h_c (f : Flags) : Flags.toByte { f with h := !f.h, c := !f.c } = f.toByte ^^^ 0x30 := by
  obtain ⟨z, n, h, c⟩ := f
  revert z n h c
  decide

theorem toByte_not_h (f : Flags) : Flags.toByte { f with h := !f.h } = f.toByte ^^^ 0x20 := by
  obtain ⟨z, n, h, c⟩ := f
  revert z n h c
  decide

/-- Under `NoBorrow` SUB, SBC and CP answer the complement of H and C. -/
theorem alu_noBorrow {o : AluOp} (ho : o = .sub ∨ o = .sbc ∨ o = .cp) (a b : Byte) (cin : Bool) :
    let out := alu .borrow o a b cin
    alu .noBorrow o a b cin = { out with flags := { out.flags with h := !out.flags.h, c := !out.flags.c } } := by
  obtain rfl | rfl | rfl := ho <;> rfl

theorem aluInstr_noBorrow {o : AluOp} (ho : o = .sub ∨ o = .sbc ∨ o = .cp) (x : AluSrc) (s : State) :
    aluInstr o x (withPolarity .noBorrow s) = withPolarity .noBorrow (flipAf 0x0030 (aluInstr o x (withPolarity .borrow s))) := by
  have hout : aluOut o x (withPolarity .noBorrow s) =
      let out := aluOut o x (withPolarity .borrow s)
      { out with flags := { out.flags with h := !out.flags.h, c := !out.flags.c } } := by
    rw [aluOut, aluOut, operand_withPolarity, operand_withPolarity]
    exact alu_noBorrow ho _ _ _
  rw [aluInstr_eq, aluInstr_eq, hout]
  dsimp only
  rw [toByte_not_h_c, setF_xor _ _ (by decide)]
  cases (aluOut o x (withPolarity .borrow s)).wb <;> rfl

/-- Under `NoBorrow` DEC answers the complement of H. -/
theorem decFlags_noBorrow (old : Flags) (v : Byte) :
    decFlags .noBorrow old v = { decFlags .borrow old v with h := !(decFlags .borrow old v).h } := rfl

theorem decReg_noBorrow (r : Reg8) (s : State) :
    decReg r (withPolarity .noBorrow s) = withPolarity .noBorrow (flipAf 0x0020 (decReg r (withPolarity .borrow s))) := by
  have hreg (p : BorrowPolarity) : (withPolarity p s).getReg8 r = s.getReg8 r := operand_withPolarity p s (.reg r)
  rw [decReg, decReg, hreg, hreg]
  change (State.setF _ (decFlags .noBorrow s.flags _).toByte).setReg8 r _ = _
  rw [decFlags_noBorrow, toByte_not_h, setF_xor _ _ (by decide), setReg8_flipAf]
  cases r <;> rfl

theorem decAtHL_noBorrow (s : State) :
    decAtHL (withPolarity .noBorrow s) = withPolarity .noBorrow (flipAf 0x0020 (decAtHL (withPolarity .borrow s))) := by
  change (State.setF _ (decFlags .noBorrow s.flags _).toByte).busWrite _ _ = _
  rw [decFlags_noBorrow, toByte_not_h, setF_xor _ _ (by decide)]
  rfl

/-! ## The instructions the polarity does not reach -/

/-- A form with no bit in the mask does the same under both polarities. -/
theorem effect_withPolarity {f : Form} (h : polarityMask f = 0) (p q : BorrowPolarity) (s : State) :
    effect f (withPolarity p s) = withPolarity p (effect f (withPolarity q s)) := by
  cases f with
  | decR | decHL => exact absurd (show 0x0020#16 = 0 from h) (by decide)
  | ldRR dst src => cases dst <;> cases src <;> rfl
  | ldRHL r | ldHLR r | ldRN r | incR r => cases r <;> rfl
  | ldAInd p | ldIndA p | ldPairNN p | push p | pop p => cases p <;> rfl
  | alu o x =>
    have hout : aluOut o x (withPolarity p s) = aluOut o x (withPolarity q s) := by
      rw [aluOut, aluOut, operand_withPolarity, operand_withPolarity]
      cases o with
      | sub | sbc | cp => exact absurd (show 0x0030#16 = 0 from h) (by decide)
      | _ => rfl
    rw [effect, effect, aluInstr_eq_withAf, aluInstr_eq_withAf, hout]
    rfl
  | _ => rfl

/-! ## Every instruction -/

/-- The mask is where the two polarities differ. -/
theorem effect_noBorrow (f : Form) (s : State) :
    effect f (withPolarity .noBorrow s) = withPolarity .noBorrow (flipAf (polarityMask f) (effect f (withPolarity .borrow s))) := by
  by_cases h : polarityMask f = 0
  · rw [h, flipAf_zero]
    exact effect_withPolarity h .noBorrow .borrow s
  · cases f with
    | alu o x =>
      cases o with
      | sub => exact aluInstr_noBorrow (.inl rfl) x s
      | sbc => exact aluInstr_noBorrow (.inr (.inl rfl)) x s
      | cp => exact aluInstr_noBorrow (.inr (.inr rfl)) x s
      | _ => exact absurd rfl h
    | decR r => exact decReg_noBorrow r s
    | decHL => exact decAtHL_noBorrow s
    | _ => exact absurd rfl h

/-! ## The obligation -/

/-- Settles O42: form by form, the polarity reaches AF through the flags of the mask alone. -/
theorem polarityFlipsOnlySubtractionFlags : Obligations.PolarityFlipsOnlySubtractionFlags := by
  intro i s t hexec
  rw [exec_eq_effect] at hexec ⊢
  cases hexec
  exact congrArg _ (effect_noBorrow i.form s)

end Sys2Proof.Proofs
end
